-- ==== Sys2Proof/Word.lean ====
section
/-! DEFINITION. The words of the hardware: the byte, the two 8-bit formats as two distinct types (R12, R13), and
the 32-bit result pattern (R43). Bit 0 is the least significant bit everywhere (R9). -/

namespace Sys2Proof

/-- One byte, bit 7 most significant (R9, R24). -/
abbrev Byte := BitVec 8

/-- A binary32 bit pattern `f32[31:0]` (R43). -/
abbrev F32 := BitVec 32

/-- A value of the 1-4-3 format. The byte is its sole state (R13), and the type is not that of a 1-5-2 value (R12). -/
structure F143 where
  byte : Byte
  deriving DecidableEq, Repr

/-- A value of the 1-5-2 format (R12, R13). -/
structure F152 where
  byte : Byte
  deriving DecidableEq, Repr

/-- The pattern is a binary32 NaN: exponent field all ones and fraction not zero (R7, R43). -/
def f32IsNan (y : F32) : Bool :=
  y.extractLsb' 23 8 == 0xFF#8 && y.extractLsb' 0 23 != 0#23

end Sys2Proof
end

