-- ==== Sys2Proof/Config.lean ====
section
/-! DEFINITION. What a build of the block fixes: the two parameters of R6 and R7 (there is no other, R8), and the
per-format constants of R5 and R38. -/

namespace Sys2Proof

/-- A legal `NAN_CANON`: one of the two NaN bytes (R6). -/
structure NanByte where
  byte  : Byte
  legal : byte = 0x7F#8 ∨ byte = 0xFF#8
  deriving DecidableEq, Repr

/-- A legal `F32_NAN_CANON`: any binary32 NaN pattern (R7). -/
structure F32NanPattern where
  bits  : F32
  isNan : f32IsNan bits = true
  deriving DecidableEq, Repr

/-- The parameters of a build, fixed when the block is built and not writable at run time (R19). -/
structure Config where
  nanCanon    : NanByte
  f32NanCanon : F32NanPattern
  deriving DecidableEq, Repr

/-- The defaults the spec sets: 0x7F and 0x7FC00000 (R6, R7, R23). -/
def Config.default : Config where
  nanCanon    := ⟨0x7F#8, .inl rfl⟩
  f32NanCanon := ⟨0x7FC00000#32, rfl⟩

/-- Where a field sits in its byte: a field is `(x & mask) >> offset` (R38). -/
structure FieldConst where
  mask   : Byte
  offset : Nat
  width  : Nat
  deriving DecidableEq, Repr

namespace Config

/-! The rows of R38's table. -/

def f143SignField : FieldConst := ⟨0x80#8, 7, 1⟩
def f143ExpField  : FieldConst := ⟨0x78#8, 3, 4⟩
def f143MantField : FieldConst := ⟨0x07#8, 0, 3⟩
def f152SignField : FieldConst := ⟨0x80#8, 7, 1⟩
def f152ExpField  : FieldConst := ⟨0x7C#8, 2, 5⟩
def f152MantField : FieldConst := ⟨0x03#8, 0, 2⟩

/-- The exponent bias of the 1-4-3 format (R5, R36). -/
def f143Bias : Nat := 7
/-- The exponent bias of the 1-5-2 format (R5, R37, R104). -/
def f152Bias : Nat := 15

end Config

end Sys2Proof
end

