-- ==== Sys2Proof/Syntax.lean ====
section
/-! DEFINITION. The operations of R48 as transactions (R131): one constructor of `Instr` for each row of
spec/opcode_table.json, carrying a value for each of its operands. Beside it the selection `Op` (which port the host
reads; no bit of a word carries it, R48) and the lines of a script (R52). -/

namespace Sys2Proof

/-- The input ports an F143 byte can be driven onto (R54: `DEC143.x`, `ADD143.a` or `ADD143.b`). -/
inductive F143Port where
  | dec143X
  | add143A
  | add143B
  deriving DecidableEq, Repr

/-- A transaction: one operation and one value for each of its operands (R48, R131). -/
inductive Instr where
  | f143FromByte (port : F143Port) (r : Byte)
  | f143Zero
  | f143NegZero
  | f143Nan
  | f143Sign (x : F143)
  | f143Exp (x : F143)
  | f143Mant (x : F143)
  | f143IsSubnormal (x : F143)
  | f143IsZero (x : F143)
  | f143IsNegZero (x : F143)
  | f143IsNan (x : F143)
  | f143Decode (x : F143)
  | f143Add (a b : F143)
  | f152FromByte (r : Byte)
  | f152Sign (x : F152)
  | f152Exp (x : F152)
  | f152Mant (x : F152)
  | f152IsSubnormal (x : F152)
  | f152IsZero (x : F152)
  | f152IsNegZero (x : F152)
  | f152IsNan (x : F152)
  | f152Decode (x : F152)
  deriving DecidableEq, Repr

/-- The selection of an operation: the port the host drives or reads, or the constant it takes (R48). -/
inductive Op where
  | f143FromByte (port : F143Port)
  | f143Zero
  | f143NegZero
  | f143Nan
  | f143Sign
  | f143Exp
  | f143Mant
  | f143IsSubnormal
  | f143IsZero
  | f143IsNegZero
  | f143IsNan
  | f143Decode
  | f143Add
  | f152FromByte
  | f152Sign
  | f152Exp
  | f152Mant
  | f152IsSubnormal
  | f152IsZero
  | f152IsNegZero
  | f152IsNan
  | f152Decode
  deriving DecidableEq, Repr

/-- The two 8-bit formats (R1). -/
inductive Format where
  | f143
  | f152
  deriving DecidableEq, Repr

/-- The formats of an operation's operand bytes, in order (R48, columns `operands` and `operand pattern`). -/
def Op.inputs : Op → List Format
  | .f143FromByte _ => [.f143]
  | .f143Zero => []
  | .f143NegZero => []
  | .f143Nan => []
  | .f143Sign => [.f143]
  | .f143Exp => [.f143]
  | .f143Mant => [.f143]
  | .f143IsSubnormal => [.f143]
  | .f143IsZero => [.f143]
  | .f143IsNegZero => [.f143]
  | .f143IsNan => [.f143]
  | .f143Decode => [.f143]
  | .f143Add => [.f143, .f143]
  | .f152FromByte => [.f152]
  | .f152Sign => [.f152]
  | .f152Exp => [.f152]
  | .f152Mant => [.f152]
  | .f152IsSubnormal => [.f152]
  | .f152IsZero => [.f152]
  | .f152IsNegZero => [.f152]
  | .f152IsNan => [.f152]
  | .f152Decode => [.f152]

/-- The format of an operation's result where that is an 8-bit value (R48, column `result`). -/
def Op.resultFormat : Op → Option Format
  | .f143FromByte _ => some .f143
  | .f143Zero => some .f143
  | .f143NegZero => some .f143
  | .f143Nan => some .f143
  | .f143Sign => none
  | .f143Exp => none
  | .f143Mant => none
  | .f143IsSubnormal => none
  | .f143IsZero => none
  | .f143IsNegZero => none
  | .f143IsNan => none
  | .f143Decode => none
  | .f143Add => some .f143
  | .f152FromByte => some .f152
  | .f152Sign => none
  | .f152Exp => none
  | .f152Mant => none
  | .f152IsSubnormal => none
  | .f152IsZero => none
  | .f152IsNegZero => none
  | .f152IsNan => none
  | .f152Decode => none

/-- The width of an operation's result in bits (R48, column `result`; R50). -/
def Op.resultWidth : Op → Nat
  | .f143FromByte _ => 8
  | .f143Zero => 8
  | .f143NegZero => 8
  | .f143Nan => 8
  | .f143Sign => 1
  | .f143Exp => 4
  | .f143Mant => 3
  | .f143IsSubnormal => 1
  | .f143IsZero => 1
  | .f143IsNegZero => 1
  | .f143IsNan => 1
  | .f143Decode => 32
  | .f143Add => 8
  | .f152FromByte => 8
  | .f152Sign => 1
  | .f152Exp => 5
  | .f152Mant => 2
  | .f152IsSubnormal => 1
  | .f152IsZero => 1
  | .f152IsNegZero => 1
  | .f152IsNan => 1
  | .f152Decode => 32

/-- An operand of a script line: a literal byte, or the name of an earlier line's result (R52). Names are numbers:
name k is the k-th result bound, counting from 0 (DESIGN CHOICE, safe, log 4). -/
inductive Operand where
  | lit (b : Byte)
  | name (k : Nat)
  deriving DecidableEq, Repr

/-- One line of a script, `<result> = <operation>(<operand>, ...)`, "with the operation names of rule R48" (R52). That
no line can have one of R53's pseudo-operations as its operation (`F143.IS_NORMAL`, `F152.IS_NORMAL`, `F143.NEG`, names
"for use in scripts and vectors only"), not of a named result either, is the model's choice (DESIGN CHOICE, safe, log
18): the three are the functions `F143.isNormal`, `F152.isNormal` and `F143.neg`. -/
structure Line where
  op   : Op
  args : List Operand
  deriving DecidableEq, Repr

end Sys2Proof
end

