-- ==== Sys2Proof/WellFormed.lean ====
section
/-! DEFINITION. The checks on a script before it is run. An `Instr` needs none: every byte is legal in both formats
(R41) and the two formats are two types (R12). A line is checked for its number of operands (R48), for names bound on
earlier lines only (R52), and for the format of the results it passes on (R12, R117). `known` lists, for each name
bound so far, the format of its result (none where the result is no 8-bit value). -/

namespace Sys2Proof

/-- The operand may stand where a byte of format `fmt` is taken. -/
def Operand.fits (known : List (Option Format)) (fmt : Format) : Operand → Bool
  | .lit _ => true
  | .name k => known[k]? == some (some fmt)

/-- As many operands as formats, and each one fits. -/
def argsFit (known : List (Option Format)) : List Format → List Operand → Bool
  | [], [] => true
  | fmt :: fmts, o :: os => o.fits known fmt && argsFit known fmts os
  | [], _ :: _ => false
  | _ :: _, [] => false

def Line.wellFormed (known : List (Option Format)) (l : Line) : Bool :=
  argsFit known l.op.inputs l.args

/-- A script, each line against the names bound before it (R52). -/
def scriptWellFormed (known : List (Option Format)) : List Line → Bool
  | [] => true
  | l :: ls => l.wellFormed known && scriptWellFormed (known ++ [l.op.resultFormat]) ls

end Sys2Proof
end

