-- ==== Sys2Proof/Decode.lean ====
section
/-! DEFINITION. From operand bytes to transactions and back. No bit selects an operation (R48), so the decoder takes
the selection beside the bytes; it is total, and rejects a wrong number of bytes by name. The encoder gives back the
selection and the bytes on the input ports (95_test_vectors.md section 6: "The encoding of a line is the operand bytes
driven on the unit's input ports"). -/

namespace Sys2Proof

/-- Why bytes are not the operands of an operation (every byte by itself is legal, R41). R48 gives the counts; that
another number of bytes is rejected, and under these names, is the model's choice (DESIGN CHOICE, safe, log 6). -/
inductive Rejection where
  | tooFewOperands
  | tooManyOperands
  deriving DecidableEq, Repr

def decodeNullary (i : Instr) : List Byte → Except Rejection Instr
  | [] => .ok i
  | _ :: _ => .error .tooManyOperands

def decodeUnary (f : Byte → Instr) : List Byte → Except Rejection Instr
  | [] => .error .tooFewOperands
  | [x] => .ok (f x)
  | _ :: _ :: _ => .error .tooManyOperands

def decodeBinary (f : Byte → Byte → Instr) : List Byte → Except Rejection Instr
  | [] => .error .tooFewOperands
  | [_] => .error .tooFewOperands
  | [a, b] => .ok (f a b)
  | _ :: _ :: _ :: _ => .error .tooManyOperands

/-- The transaction of a selection and its operand bytes (R48, R49). -/
def decode (op : Op) (bytes : List Byte) : Except Rejection Instr :=
  match op with
  | .f143FromByte port => decodeUnary (fun r => .f143FromByte port r) bytes
  | .f143Zero => decodeNullary .f143Zero bytes
  | .f143NegZero => decodeNullary .f143NegZero bytes
  | .f143Nan => decodeNullary .f143Nan bytes
  | .f143Sign => decodeUnary (fun x => .f143Sign ⟨x⟩) bytes
  | .f143Exp => decodeUnary (fun x => .f143Exp ⟨x⟩) bytes
  | .f143Mant => decodeUnary (fun x => .f143Mant ⟨x⟩) bytes
  | .f143IsSubnormal => decodeUnary (fun x => .f143IsSubnormal ⟨x⟩) bytes
  | .f143IsZero => decodeUnary (fun x => .f143IsZero ⟨x⟩) bytes
  | .f143IsNegZero => decodeUnary (fun x => .f143IsNegZero ⟨x⟩) bytes
  | .f143IsNan => decodeUnary (fun x => .f143IsNan ⟨x⟩) bytes
  | .f143Decode => decodeUnary (fun x => .f143Decode ⟨x⟩) bytes
  | .f143Add => decodeBinary (fun a b => .f143Add ⟨a⟩ ⟨b⟩) bytes
  | .f152FromByte => decodeUnary (fun r => .f152FromByte r) bytes
  | .f152Sign => decodeUnary (fun x => .f152Sign ⟨x⟩) bytes
  | .f152Exp => decodeUnary (fun x => .f152Exp ⟨x⟩) bytes
  | .f152Mant => decodeUnary (fun x => .f152Mant ⟨x⟩) bytes
  | .f152IsSubnormal => decodeUnary (fun x => .f152IsSubnormal ⟨x⟩) bytes
  | .f152IsZero => decodeUnary (fun x => .f152IsZero ⟨x⟩) bytes
  | .f152IsNegZero => decodeUnary (fun x => .f152IsNegZero ⟨x⟩) bytes
  | .f152IsNan => decodeUnary (fun x => .f152IsNan ⟨x⟩) bytes
  | .f152Decode => decodeUnary (fun x => .f152Decode ⟨x⟩) bytes

/-- The selection of a transaction (R48). -/
def Instr.op : Instr → Op
  | .f143FromByte port _ => .f143FromByte port
  | .f143Zero => .f143Zero
  | .f143NegZero => .f143NegZero
  | .f143Nan => .f143Nan
  | .f143Sign _ => .f143Sign
  | .f143Exp _ => .f143Exp
  | .f143Mant _ => .f143Mant
  | .f143IsSubnormal _ => .f143IsSubnormal
  | .f143IsZero _ => .f143IsZero
  | .f143IsNegZero _ => .f143IsNegZero
  | .f143IsNan _ => .f143IsNan
  | .f143Decode _ => .f143Decode
  | .f143Add _ _ => .f143Add
  | .f152FromByte _ => .f152FromByte
  | .f152Sign _ => .f152Sign
  | .f152Exp _ => .f152Exp
  | .f152Mant _ => .f152Mant
  | .f152IsSubnormal _ => .f152IsSubnormal
  | .f152IsZero _ => .f152IsZero
  | .f152IsNegZero _ => .f152IsNegZero
  | .f152IsNan _ => .f152IsNan
  | .f152Decode _ => .f152Decode

/-- The operand bytes of a transaction, in the order of R48. -/
def Instr.bytes : Instr → List Byte
  | .f143FromByte _ r => [r]
  | .f143Zero => []
  | .f143NegZero => []
  | .f143Nan => []
  | .f143Sign x => [x.byte]
  | .f143Exp x => [x.byte]
  | .f143Mant x => [x.byte]
  | .f143IsSubnormal x => [x.byte]
  | .f143IsZero x => [x.byte]
  | .f143IsNegZero x => [x.byte]
  | .f143IsNan x => [x.byte]
  | .f143Decode x => [x.byte]
  | .f143Add a b => [a.byte, b.byte]
  | .f152FromByte r => [r]
  | .f152Sign x => [x.byte]
  | .f152Exp x => [x.byte]
  | .f152Mant x => [x.byte]
  | .f152IsSubnormal x => [x.byte]
  | .f152IsZero x => [x.byte]
  | .f152IsNegZero x => [x.byte]
  | .f152IsNan x => [x.byte]
  | .f152Decode x => [x.byte]

/-- The encoding of a transaction: its selection and its operand bytes. -/
def encode (i : Instr) : Op × List Byte := (i.op, i.bytes)

/-- The transaction as a line of literals (R52). -/
def encodeLine (i : Instr) : Line where
  op   := i.op
  args := i.bytes.map .lit

/-- The least significant 8 bits of a number. -/
def lowByte (w : Nat) : Byte := BitVec.ofNat 8 w

/-- The line a bare table word stands for. A word carries no selection (R48), so one is chosen (DESIGN CHOICE, unsafe,
log 7): two bytes are the operands of `F143.ADD`, `a` first; one byte is the constant whose pattern it is
(the table's only rows with fixed bits), else `F143.FROM_BYTE` of it onto `DEC143.x`, the table's first row. A word of
another length is no row's; it gives a line without its operand, which the decoder rejects.

Which half of a 16-bit word is `a` is chosen too (DESIGN CHOICE, unsafe, log 7): the first byte, which is `a` because the
pattern is "operand `a` then operand `b`" (30_encoding.md section 5), is the LOW one, bits 7 to 0, and `b` is bits 15 to
8, so that 0x3038 is `F143.ADD(0x38, 0x30)`. The pattern `seeeemmmSEEEEMMM` read as one number would put `a` in bits 15
to 8; the table numbers the bits within each byte only (`a[7]`, `b[7]`). -/
def tableLine (nbits w : Nat) : Line :=
  match nbits with
  | 8 =>
    if lowByte w = 0x00#8 then ⟨.f143Zero, []⟩
    else if lowByte w = 0x80#8 then ⟨.f143NegZero, []⟩
    else if lowByte w = 0x7F#8 ∨ lowByte w = 0xFF#8 then ⟨.f143Nan, []⟩
    else ⟨.f143FromByte .dec143X, [.lit (lowByte w)]⟩
  | 16 => ⟨.f143Add, [.lit (lowByte w), .lit (lowByte (w / 256))]⟩
  | _ => ⟨.f143FromByte .dec143X, []⟩

/-- The bytes of a line of literals; a name has none by itself. -/
def literalBytes : List Operand → Option (List Byte)
  | [] => some []
  | .lit b :: os => (literalBytes os).map (b :: ·)
  | .name _ :: _ => none

/-- What the decoder reads from a table word (see `tableLine` for the selection). -/
def decodeTableWord (nbits w : Nat) : Option Instr :=
  match literalBytes (tableLine nbits w).args with
  | none => none
  | some bytes =>
    match decode (tableLine nbits w).op bytes with
    | .ok i => some i
    | .error _ => none

end Sys2Proof
end

