-- ==== Sys2Proof/Machine/State.lean ====
section
/-! DEFINITION. The state of a run. The block stores nothing (R15): what stands here is the build it is (R6, R7), the
bytes on its input ports (R44 to R46), and what the host of a run holds (R52, R131): the lines still to be run and the
results bound so far. The outputs are no fields: they are functions of the input ports (`State.dec143Out`,
`State.dec152Out`, `State.add143Sum` in Machine/Ops.lean). -/

namespace Sys2Proof.Machine

/-- The result of a transaction, in the width of R48 and R50; an 8-bit value keeps its format (R12). -/
inductive Value where
  | f143   (v : F143)
  | f152   (v : F152)
  | bit    (v : BitVec 1)
  | exp143 (v : BitVec 4)
  | mant143 (v : BitVec 3)
  | exp152 (v : BitVec 5)
  | mant152 (v : BitVec 2)
  | f32    (v : F32)
  deriving DecidableEq, Repr

structure State where
  /-- The build (R6, R7): fixed, but a field so that every statement is about every build (DESIGN CHOICE, safe, log 1). -/
  cfg     : Config
  /-- The byte on `DEC143.x` (R44). -/
  dec143X : F143
  /-- The byte on `DEC152.x` (R45). -/
  dec152X : F152
  /-- The byte on `ADD143.a` (R46). -/
  add143A : F143
  /-- The byte on `ADD143.b` (R46). -/
  add143B : F143
  /-- The host's lines still to be run, first line first (R52, R131; log 3). -/
  script  : List Line
  /-- The results bound so far, name k at position k (R52, R131; log 3, log 4). -/
  results : List Value
  deriving DecidableEq, Repr

/-- The reasons the block stops: none. "The table of synchronous exceptions is empty" (R110, R109; log 15). -/
inductive Fault where
  deriving DecidableEq, Repr

/-- The reasons a step gives no transaction. All but the first are about a line that is none of the block's
transactions (R12, R117); no unit is driven then (DESIGN CHOICE, log 6). -/
inductive Refusal where
  /-- Raised by an arm of `exec` whose instruction has no meaning yet; no arm is so. Safe. -/
  | notModelled (mnemonic : String)
  /-- Raised by `step`: the line's operation takes another number of operands (R48). Safe: a claim about such a line
  cannot be proved. -/
  | operandCount (why : Rejection)
  /-- Raised by `step`: the line names a result that no earlier line has bound (R52). Safe, as above. -/
  | unboundName (k : Nat)
  /-- Raised by `step`: the named result is no value of the format the port takes (R12, R117). Safe, as above. -/
  | formatMismatch (k : Nat)
  deriving DecidableEq, Repr

/-- Nothing to reset (R23, R122): the parameters are the defaults (R6, R7, R23) and the host has given no line and
bound no result. The bytes on the ports before they are driven are 0x00 (DESIGN CHOICE, unsafe, log 2). -/
def State.reset : State where
  cfg     := Config.default
  dec143X := ⟨0x00#8⟩
  dec152X := ⟨0x00#8⟩
  add143A := ⟨0x00#8⟩
  add143B := ⟨0x00#8⟩
  script  := []
  results := []

end Sys2Proof.Machine
end

