-- ==== Sys2Proof/Machine/Operands.lean ====
section
/-! DEFINITION. Operands: the fields of a byte (R36, R37, R49), the significand and effective exponent assembled from
them (R49, R78), and how a line's operands become bytes (R52). -/

namespace Sys2Proof

/-! ### Fields of an F143 byte (R58 to R60) -/

/-- `x[7]` (R58). -/
def F143.sign (x : F143) : BitVec 1 := x.byte.extractLsb' 7 1
/-- `x[6:3]`, the stored, biased field (R59). -/
def F143.exp (x : F143) : BitVec 4 := x.byte.extractLsb' 3 4
/-- `x[2:0]`, without the implicit bit (R60). -/
def F143.mant (x : F143) : BitVec 3 := x.byte.extractLsb' 0 3

/-- The byte with its sign bit flipped, a pseudo-operation (R53; log 18). -/
def F143.neg (x : F143) : F143 := ⟨x.byte ^^^ 0x80#8⟩

/-! ### Fields of an F152 byte (R94 to R96) -/

/-- `x[7]` (R94). -/
def F152.sign (x : F152) : BitVec 1 := x.byte.extractLsb' 7 1
/-- `x[6:2]`, the stored, biased field (R95). -/
def F152.exp (x : F152) : BitVec 5 := x.byte.extractLsb' 2 5
/-- `x[1:0]`, without the implicit bit (R96). -/
def F152.mant (x : F152) : BitVec 2 := x.byte.extractLsb' 0 2

/-- The byte with its sign bit flipped, for the symmetry law of R106. -/
def F152.neg (x : F152) : F152 := ⟨x.byte ^^^ 0x80#8⟩

/-! ### Assembled quantities (R49, R78) -/

/-- The effective biased exponent `E`: the field, or 1 where the field is 0 (R78, R67). -/
def F143.effExp (x : F143) : Nat := if x.exp.toNat = 0 then 1 else x.exp.toNat
/-- The significand `sig`: the mantissa field with the implicit bit in front (R49, R78). -/
def F143.sig (x : F143) : Nat := if x.exp.toNat = 0 then x.mant.toNat else 8 + x.mant.toNat

/-- The effective biased exponent `E` of R105. -/
def F152.effExp (x : F152) : Nat := if x.exp.toNat = 0 then 1 else x.exp.toNat
/-- The significand `sig` of R105. -/
def F152.sig (x : F152) : Nat := if x.exp.toNat = 0 then x.mant.toNat else 4 + x.mant.toNat

/-- The field named by a row of R38's table: `(x & mask) >> offset`. -/
def FieldConst.get (f : FieldConst) (x : Byte) : Nat := ((x &&& f.mask) >>> f.offset).toNat

namespace Machine

/-- The width of a result in bits (R50). -/
def Value.width : Value → Nat
  | .f143 _ => 8
  | .f152 _ => 8
  | .bit _ => 1
  | .exp143 _ => 4
  | .mant143 _ => 3
  | .exp152 _ => 5
  | .mant152 _ => 2
  | .f32 _ => 32

/-- The format of a result that is an 8-bit value (R12). -/
def Value.format : Value → Option Format
  | .f143 _ => some .f143
  | .f152 _ => some .f152
  | .bit _ => none
  | .exp143 _ => none
  | .mant143 _ => none
  | .exp152 _ => none
  | .mant152 _ => none
  | .f32 _ => none

/-- The byte of a result, where it is a value of format `fmt`: a result of the other format, or no 8-bit value, has
none (R12: "a type error and not a run"). -/
def Value.byteAs (fmt : Format) : Value → Option Byte
  | .f143 v => if fmt = .f143 then some v.byte else none
  | .f152 v => if fmt = .f152 then some v.byte else none
  | .bit _ => none
  | .exp143 _ => none
  | .mant143 _ => none
  | .exp152 _ => none
  | .mant152 _ => none
  | .f32 _ => none

/-- The byte an operand stands for at a port of format `fmt` (R52). -/
def resolveOperand (results : List Value) (fmt : Format) : Operand → Except Refusal Byte
  | .lit b => .ok b
  | .name k =>
    match results[k]? with
    | none => .error (.unboundName k)
    | some v =>
      match v.byteAs fmt with
      | none => .error (.formatMismatch k)
      | some b => .ok b

/-- The bytes of a line's operands, one for each port. -/
def resolveArgs (results : List Value) : List Format → List Operand → Except Refusal (List Byte)
  | [], [] => .ok []
  | [], _ :: _ => .error (.operandCount .tooManyOperands)
  | _ :: _, [] => .error (.operandCount .tooFewOperands)
  | fmt :: fmts, o :: os =>
    match resolveOperand results fmt o with
    | .error r => .error r
    | .ok b =>
      match resolveArgs results fmts os with
      | .error r => .error r
      | .ok bs => .ok (b :: bs)

/-- The transaction of a line, given the results bound so far (R52, R131). -/
def readLine (results : List Value) (l : Line) : Except Refusal Instr :=
  match resolveArgs results l.op.inputs l.args with
  | .error r => .error r
  | .ok bytes =>
    match decode l.op bytes with
    | .error why => .error (.operandCount why)
    | .ok i => .ok i

end Machine

end Sys2Proof
end

