-- ==== Sys2Proof/Machine/Flags.lean ====
section
/-! DEFINITION. The classification bits, the only flag-like outputs of the block (R18): pure functions of the input
byte, stored nowhere. -/

namespace Sys2Proof

/-! ### F143 (R61 to R65) -/

/-- Exponent field zero, mantissa field not zero (R61). False for the zeros: not the branch condition of decode (R69). -/
def F143.isSubnormal (x : F143) : Bool := x.exp == 0#4 && x.mant != 0#3
/-- The byte is 0x00 (R62). -/
def F143.isZero (x : F143) : Bool := x.byte == 0x00#8
/-- The byte is 0x80 (R63). -/
def F143.isNegZero (x : F143) : Bool := x.byte == 0x80#8
/-- Exponent field and mantissa field all ones, whatever the sign (R64). -/
def F143.isNan (x : F143) : Bool := x.exp == 15#4 && x.mant == 7#3
/-- None of the four, a pseudo-operation (R53, R65; log 18). -/
def F143.isNormal (x : F143) : Bool := !(x.isZero || x.isNegZero || x.isSubnormal || x.isNan)

/-! ### F152 (R97 to R101) -/

/-- Exponent field zero, mantissa field not zero (R97). -/
def F152.isSubnormal (x : F152) : Bool := x.exp == 0#5 && x.mant != 0#2
/-- The byte is 0x00 (R98). -/
def F152.isZero (x : F152) : Bool := x.byte == 0x00#8
/-- The byte is 0x80 (R99). -/
def F152.isNegZero (x : F152) : Bool := x.byte == 0x80#8
/-- Exponent field and mantissa field all ones; exponent field 31 alone is no NaN and no infinity (R100). -/
def F152.isNan (x : F152) : Bool := x.exp == 31#5 && x.mant == 3#2
/-- None of the four, a pseudo-operation (R53, R101; log 18). -/
def F152.isNormal (x : F152) : Bool := !(x.isZero || x.isNegZero || x.isSubnormal || x.isNan)

namespace Machine

/-- A predicate on a wire: 1 for true (R50). -/
def wire (b : Bool) : BitVec 1 := BitVec.ofBool b

end Machine

end Sys2Proof
end

