-- ==== Sys2Proof/Machine/AddF143.lean ====
section
/-! DEFINITION. The sum of two F143 bytes: the grid algorithm of R73, and the document's own datapath (R89), which the
spec says is the same function. All integers are exact (R10, R90). -/

namespace Sys2Proof.Machine

/-- The one byte every NaN result takes (R6, R57, R76). -/
def canonNan (cfg : Config) : F143 := ⟨cfg.nanCanon.byte⟩

/-- A zero byte with sign `s` (R81). -/
def packZero (s : BitVec 1) : F143 := ⟨s ++ 0#7⟩

/-- `{sr, 4'b0000, M[2:0]}` (R82). -/
def packSubnormal (sr : BitVec 1) (M : Nat) : F143 := ⟨sr ++ 0#4 ++ BitVec.ofNat 3 M⟩

/-- The result of exponent field `er` and 4-bit significand `q`, after rounding; NaN where the exponent is past 15 or
the fields are those of the NaN pattern (R85). -/
def packNormal (cfg : Config) (sr : BitVec 1) (er q : Nat) : F143 :=
  if er > 15 ∨ (er = 15 ∧ q = 15) then canonNan cfg
  else ⟨sr ++ BitVec.ofNat 4 er ++ BitVec.ofNat 3 q⟩

/-- `G = M[sh-1]`, the first of the dropped bits (R83). -/
def guardBit (M sh : Nat) : Bool := decide (1 ≤ sh) && M.testBit (sh - 1)

/-- `T = (M[sh-2:0] != 0)`, the rest of the dropped bits (R83). -/
def stickyBit (M sh : Nat) : Bool := decide (2 ≤ sh) && decide (M % 2 ^ (sh - 1) ≠ 0)

/-- Round the magnitude `M`, whose leading one is at bit `p` (at least 3), to four bits, nearest with ties to even,
with the rounding carry into the exponent `er` (R83, R84), then pack (R85). -/
def roundNormal (cfg : Config) (sr : BitVec 1) (er M p : Nat) : F143 :=
  let sh := p - 3
  let q := M >>> sh
  let up := guardBit M sh && (stickyBit M sh || q.testBit 0)
  let q2 := q + up.toNat
  if q2 = 16 then packNormal cfg sr (er + 1) 8 else packNormal cfg sr er q2

/-- The magnitude in units of `2^-9`: `sig << (E - 1)` (R79). -/
def gridMag (x : F143) : Nat := x.sig <<< (x.effExp - 1)

/-- The signed magnitude in units of `2^-9` (R80). -/
def gridInt (x : F143) : Int := if x.sign = 1#1 then -(gridMag x : Int) else (gridMag x : Int)

/-- The byte of a nonzero grid sum (R82): exact below 8 units, rounded from there on. -/
def packGrid (cfg : Config) (S : Int) : F143 :=
  let sr := wire (decide (S < 0))
  let M := S.natAbs
  let p := M.log2
  if p ≤ 2 then packSubnormal sr M else roundNormal cfg sr (p - 2) M p

/-- `F143.ADD` (R73). -/
def addF143 (cfg : Config) (a b : F143) : F143 :=
  if a.isNan || b.isNan then canonNan cfg
  else
    let S := gridInt a + gridInt b
    if S = 0 then packZero (a.sign &&& b.sign) else packGrid cfg S

/-- The order of operands by (`E`, `sig`): `a` is the "big" one (R89). -/
def bigFirst (a b : F143) : Bool :=
  decide (a.effExp > b.effExp) || (decide (a.effExp = b.effExp) && decide (a.sig ≥ b.sig))

/-- The datapath of R89 on the big operand and the small one: shift the smaller significand, extended by 14 bits, right
by the exponent difference, then add or subtract, renormalise and round. `zeroSign` is the sign of an exact zero. -/
def addAligned (cfg : Config) (big small : F143) (zeroSign : BitVec 1) : F143 :=
  let E1 := big.effExp
  let d := E1 - small.effExp
  let X := big.sig <<< 14
  let Y := (small.sig <<< 14) >>> d
  let W := if big.sign = small.sign then X + Y else X - Y
  if W = 0 then packZero zeroSign
  else
    let p := W.log2
    if E1 + p ≥ 18 then roundNormal cfg big.sign (E1 + p - 17) W p
    else packSubnormal big.sign (W >>> (15 - E1))

/-- The sum by the document's datapath (R89). -/
def addF143ByExponent (cfg : Config) (a b : F143) : F143 :=
  if a.isNan || b.isNan then canonNan cfg
  else if bigFirst a b then addAligned cfg a b (a.sign &&& b.sign)
  else addAligned cfg b a (a.sign &&& b.sign)

end Sys2Proof.Machine
end

