-- ==== Sys2Proof/Machine/DecodeF32.lean ====
section
/-! DEFINITION. The two decode functions to a binary32 pattern (R66, R102). The NaN test is the first branch (R68,
R103, R127), and the branch after it is taken on exponent field 0 whatever the mantissa (R69). -/

namespace Sys2Proof.Machine

/-- `{s, X[7:0], F[22:0]}` (R43). -/
def f32Pack (s : BitVec 1) (X F : Nat) : F32 := s ++ BitVec.ofNat 8 X ++ BitVec.ofNat 23 F

/-- The pattern of a subnormal with mantissa field `m`, not 0: `k = msb(m)`, `X = base + k`,
`F = (m - (1 << k)) << (23 - k)` (R66 with base 118, R102 with base 111). -/
def f32OfSubnormal (s : BitVec 1) (base m : Nat) : F32 :=
  let k := m.log2
  f32Pack s (base + k) ((m - (1 <<< k)) <<< (23 - k))

/-- The pattern of a normal number: `X = e + rebias`, `F = m << place` (R66 with 120 and 20, R102 with 112 and 21). -/
def f32OfNormal (s : BitVec 1) (rebias place e m : Nat) : F32 :=
  f32Pack s (e + rebias) (m <<< place)

/-- `F143.DECODE` (R66). -/
def decodeF143 (cfg : Config) (x : F143) : F32 :=
  if x.isNan then cfg.f32NanCanon.bits
  else if x.exp.toNat = 0 then
    if x.mant.toNat = 0 then f32Pack x.sign 0 0
    else f32OfSubnormal x.sign 118 x.mant.toNat
  else f32OfNormal x.sign 120 20 x.exp.toNat x.mant.toNat

/-- `F152.DECODE` (R102). -/
def decodeF152 (cfg : Config) (x : F152) : F32 :=
  if x.isNan then cfg.f32NanCanon.bits
  else if x.exp.toNat = 0 then
    if x.mant.toNat = 0 then f32Pack x.sign 0 0
    else f32OfSubnormal x.sign 111 x.mant.toNat
  else f32OfNormal x.sign 112 21 x.exp.toNat x.mant.toNat

end Sys2Proof.Machine
end

