-- ==== Sys2Proof/Machine/Ops.lean ====
section
/-! DEFINITION. The named operations over the ports: the outputs as functions of the inputs (R15, R123, R125), driving
an input port, binding a result, and a transaction on each unit (R131). -/

namespace Sys2Proof.Machine

/-! ### The outputs, computed from the input ports -/

/-- The eight output ports of `DEC143` (R44). -/
structure Dec143Out where
  sign        : BitVec 1
  exp         : BitVec 4
  mant        : BitVec 3
  isSubnormal : BitVec 1
  isZero      : BitVec 1
  isNegZero   : BitVec 1
  isNan       : BitVec 1
  f32         : F32
  deriving DecidableEq, Repr

/-- The eight output ports of `DEC152` (R45). -/
structure Dec152Out where
  sign        : BitVec 1
  exp         : BitVec 5
  mant        : BitVec 2
  isSubnormal : BitVec 1
  isZero      : BitVec 1
  isNegZero   : BitVec 1
  isNan       : BitVec 1
  f32         : F32
  deriving DecidableEq, Repr

/-- The function `DEC143` is (R44, R125). -/
def dec143 (cfg : Config) (x : F143) : Dec143Out where
  sign        := x.sign
  exp         := x.exp
  mant        := x.mant
  isSubnormal := wire x.isSubnormal
  isZero      := wire x.isZero
  isNegZero   := wire x.isNegZero
  isNan       := wire x.isNan
  f32         := decodeF143 cfg x

/-- The function `DEC152` is (R45, R125). -/
def dec152 (cfg : Config) (x : F152) : Dec152Out where
  sign        := x.sign
  exp         := x.exp
  mant        := x.mant
  isSubnormal := wire x.isSubnormal
  isZero      := wire x.isZero
  isNegZero   := wire x.isNegZero
  isNan       := wire x.isNan
  f32         := decodeF152 cfg x

/-- What stands on the outputs of `DEC143`; all eight can be read at once (R126). -/
def State.dec143Out (s : State) : Dec143Out := dec143 s.cfg s.dec143X

/-- What stands on the outputs of `DEC152` (R126). -/
def State.dec152Out (s : State) : Dec152Out := dec152 s.cfg s.dec152X

/-- What stands on `ADD143.sum` (R46). -/
def State.add143Sum (s : State) : F143 := addF143 s.cfg s.add143A s.add143B

/-! ### Driving a port, binding a result -/

def State.driveDec143 (s : State) (x : F143) : State := { s with dec143X := x }
def State.driveDec152 (s : State) (x : F152) : State := { s with dec152X := x }
def State.driveAddA (s : State) (a : F143) : State := { s with add143A := a }
def State.driveAddB (s : State) (b : F143) : State := { s with add143B := b }

/-- Drive a byte onto the F143 input port the host names (R54). -/
def State.driveF143 (s : State) : F143Port → F143 → State
  | .dec143X, x => s.driveDec143 x
  | .add143A, x => s.driveAddA x
  | .add143B, x => s.driveAddB x

/-- Bind a result to the next name (R52, R131). -/
def State.bindResult (s : State) (v : Value) : State := { s with results := s.results ++ [v] }

/-- Take the first line off the script. -/
def State.dropLine (s : State) : State := { s with script := s.script.tail }

/-! ### Transactions (R131): drive the operands, read one output, bind the result -/

/-- A transaction of `DEC143` that reads the port `out`. -/
def transactDec143 (x : F143) (out : Dec143Out → Value) (s : State) : Host.Outcome State Fault Refusal :=
  .next ((s.driveDec143 x).bindResult (out (s.driveDec143 x).dec143Out))

/-- A transaction of `DEC152` that reads the port `out`. -/
def transactDec152 (x : F152) (out : Dec152Out → Value) (s : State) : Host.Outcome State Fault Refusal :=
  .next ((s.driveDec152 x).bindResult (out (s.driveDec152 x).dec152Out))

/-- A transaction of `ADD143`, which has one output. -/
def transactAdd143 (a b : F143) (s : State) : Host.Outcome State Fault Refusal :=
  .next (((s.driveAddA a).driveAddB b).bindResult (.f143 ((s.driveAddA a).driveAddB b).add143Sum))

/-- Taking a named constant: a tie-off, no port is driven (R47). -/
def takeConstant (c : F143) (s : State) : Host.Outcome State Fault Refusal :=
  .next (s.bindResult (.f143 c))

end Sys2Proof.Machine
end

