-- ==== Sys2Proof/Machine/F143Construct.lean ====
section
/-! DEFINITION. Construction and constants of the 1-4-3 format (R54 to R57). -/

namespace Sys2Proof.Machine

/-- `F143.FROM_BYTE`: the value is the byte, unchanged, driven onto the port (R54). -/
def execF143FromByte (port : F143Port) (r : Byte) (s : State) : Host.Outcome State Fault Refusal :=
  .next ((s.driveF143 port ⟨r⟩).bindResult (.f143 ⟨r⟩))

/-- `F143.ZERO`: 0x00 (R55). -/
def execF143Zero (s : State) : Host.Outcome State Fault Refusal := takeConstant ⟨0x00#8⟩ s

/-- `F143.NEG_ZERO`: 0x80 (R56). -/
def execF143NegZero (s : State) : Host.Outcome State Fault Refusal := takeConstant ⟨0x80#8⟩ s

/-- `F143.NAN`: `NAN_CANON` (R57). -/
def execF143Nan (s : State) : Host.Outcome State Fault Refusal := takeConstant (canonNan s.cfg) s

end Sys2Proof.Machine
end

