-- ==== Sys2Proof/Machine/F143Read.lean ====
section
/-! DEFINITION. The operations of `DEC143` and `ADD143`: fields (R58 to R60), classification (R61 to R64), decode (R66)
and addition (R73). -/

namespace Sys2Proof.Machine

/-- `F143.SIGN` (R58). -/
def execF143Sign (x : F143) (s : State) : Host.Outcome State Fault Refusal :=
  transactDec143 x (fun o => .bit o.sign) s

/-- `F143.EXP` (R59). -/
def execF143Exp (x : F143) (s : State) : Host.Outcome State Fault Refusal :=
  transactDec143 x (fun o => .exp143 o.exp) s

/-- `F143.MANT` (R60). -/
def execF143Mant (x : F143) (s : State) : Host.Outcome State Fault Refusal :=
  transactDec143 x (fun o => .mant143 o.mant) s

/-- `F143.IS_SUBNORMAL` (R61). -/
def execF143IsSubnormal (x : F143) (s : State) : Host.Outcome State Fault Refusal :=
  transactDec143 x (fun o => .bit o.isSubnormal) s

/-- `F143.IS_ZERO` (R62). -/
def execF143IsZero (x : F143) (s : State) : Host.Outcome State Fault Refusal :=
  transactDec143 x (fun o => .bit o.isZero) s

/-- `F143.IS_NEG_ZERO` (R63). -/
def execF143IsNegZero (x : F143) (s : State) : Host.Outcome State Fault Refusal :=
  transactDec143 x (fun o => .bit o.isNegZero) s

/-- `F143.IS_NAN` (R64). -/
def execF143IsNan (x : F143) (s : State) : Host.Outcome State Fault Refusal :=
  transactDec143 x (fun o => .bit o.isNan) s

/-- `F143.DECODE` (R66). -/
def execF143Decode (x : F143) (s : State) : Host.Outcome State Fault Refusal :=
  transactDec143 x (fun o => .f32 o.f32) s

/-- `F143.ADD` (R73). -/
def execF143Add (a b : F143) (s : State) : Host.Outcome State Fault Refusal :=
  transactAdd143 a b s

end Sys2Proof.Machine
end

