-- ==== Sys2Proof/Machine/F152Read.lean ====
section
/-! DEFINITION. The operations of `DEC152`: construction (R93), fields (R94 to R96), classification (R97 to R100) and
decode (R102). There is no F152 constant and no F152 arithmetic (R108). -/

namespace Sys2Proof.Machine

/-- `F152.FROM_BYTE`: the value is the byte, unchanged, driven onto `DEC152.x` (R93). -/
def execF152FromByte (r : Byte) (s : State) : Host.Outcome State Fault Refusal :=
  .next ((s.driveDec152 ⟨r⟩).bindResult (.f152 ⟨r⟩))

/-- `F152.SIGN` (R94). -/
def execF152Sign (x : F152) (s : State) : Host.Outcome State Fault Refusal :=
  transactDec152 x (fun o => .bit o.sign) s

/-- `F152.EXP` (R95). -/
def execF152Exp (x : F152) (s : State) : Host.Outcome State Fault Refusal :=
  transactDec152 x (fun o => .exp152 o.exp) s

/-- `F152.MANT` (R96). -/
def execF152Mant (x : F152) (s : State) : Host.Outcome State Fault Refusal :=
  transactDec152 x (fun o => .mant152 o.mant) s

/-- `F152.IS_SUBNORMAL` (R97). -/
def execF152IsSubnormal (x : F152) (s : State) : Host.Outcome State Fault Refusal :=
  transactDec152 x (fun o => .bit o.isSubnormal) s

/-- `F152.IS_ZERO` (R98). -/
def execF152IsZero (x : F152) (s : State) : Host.Outcome State Fault Refusal :=
  transactDec152 x (fun o => .bit o.isZero) s

/-- `F152.IS_NEG_ZERO` (R99). -/
def execF152IsNegZero (x : F152) (s : State) : Host.Outcome State Fault Refusal :=
  transactDec152 x (fun o => .bit o.isNegZero) s

/-- `F152.IS_NAN` (R100). -/
def execF152IsNan (x : F152) (s : State) : Host.Outcome State Fault Refusal :=
  transactDec152 x (fun o => .bit o.isNan) s

/-- `F152.DECODE` (R102). -/
def execF152Decode (x : F152) (s : State) : Host.Outcome State Fault Refusal :=
  transactDec152 x (fun o => .f32 o.f32) s

end Sys2Proof.Machine
end

