-- ==== Sys2Proof/Machine/Dispatch.lean ====
section
/-! DEFINITION. One arm for each operation of R48. -/

namespace Sys2Proof.Machine

def exec (i : Instr) (s : State) : Host.Outcome State Fault Refusal :=
  match i with
  | .f143FromByte port r => Sys2Proof.Machine.execF143FromByte port r s
  | .f143Zero => Sys2Proof.Machine.execF143Zero s
  | .f143NegZero => Sys2Proof.Machine.execF143NegZero s
  | .f143Nan => Sys2Proof.Machine.execF143Nan s
  | .f143Sign x => Sys2Proof.Machine.execF143Sign x s
  | .f143Exp x => Sys2Proof.Machine.execF143Exp x s
  | .f143Mant x => Sys2Proof.Machine.execF143Mant x s
  | .f143IsSubnormal x => Sys2Proof.Machine.execF143IsSubnormal x s
  | .f143IsZero x => Sys2Proof.Machine.execF143IsZero x s
  | .f143IsNegZero x => Sys2Proof.Machine.execF143IsNegZero x s
  | .f143IsNan x => Sys2Proof.Machine.execF143IsNan x s
  | .f143Decode x => Sys2Proof.Machine.execF143Decode x s
  | .f143Add a b => Sys2Proof.Machine.execF143Add a b s
  | .f152FromByte r => Sys2Proof.Machine.execF152FromByte r s
  | .f152Sign x => Sys2Proof.Machine.execF152Sign x s
  | .f152Exp x => Sys2Proof.Machine.execF152Exp x s
  | .f152Mant x => Sys2Proof.Machine.execF152Mant x s
  | .f152IsSubnormal x => Sys2Proof.Machine.execF152IsSubnormal x s
  | .f152IsZero x => Sys2Proof.Machine.execF152IsZero x s
  | .f152IsNegZero x => Sys2Proof.Machine.execF152IsNegZero x s
  | .f152IsNan x => Sys2Proof.Machine.execF152IsNan x s
  | .f152Decode x => Sys2Proof.Machine.execF152Decode x s

end Sys2Proof.Machine
end

