-- ==== Sys2Proof/Machine/Step.lean ====
section
/-! DEFINITION. A step is one transaction: the host's next line (R52, R131). At the end of the script a step changes
nothing (DESIGN CHOICE, safe, log 5). -/

namespace Sys2Proof.Machine

def step (s : State) : Host.Outcome State Fault Refusal :=
  match s.script with
  | [] => .next s
  | l :: _ =>
    match readLine s.results l with
    | .error r => .refused r
    | .ok i => exec i s.dropLine

/-- The host puts one more line in front of its script: the one the table word stands for (DESIGN CHOICE, unsafe, log 7
for the operation and for `a` in the low byte of a 16-bit word; DESIGN CHOICE, safe, log 8 for the load). -/
def State.withFetchWord (s : State) (nbits w : Nat) : State :=
  { s with script := tableLine nbits w :: s.script }

end Sys2Proof.Machine
end

