-- ==== Sys2Proof/Machine/Numbers.lean ====
section
/-! DEFINITION. What the bytes and patterns stand for: `val143` (R67), `val152` (R105) and the value of a binary32
pattern (R43), as exact rationals. No unit computes these; statements about decode and the adder are made in them
(R11). -/

namespace Sys2Proof.Machine

/-- `(-1)^s`. -/
def signFactor (s : BitVec 1) : ℚ := if s = 1#1 then -1 else 1

/-- `val143(x)`, not defined for the two NaN bytes (R67). -/
def val143 (x : F143) : Option ℚ :=
  if x.isNan then none
  else if x.exp.toNat = 0 then some (signFactor x.sign * ((x.mant.toNat : ℚ) / 8) * (2 : ℚ) ^ (-6 : ℤ))
  else some (signFactor x.sign * (1 + (x.mant.toNat : ℚ) / 8) * (2 : ℚ) ^ ((x.exp.toNat : ℤ) - 7))

/-- `val152(x)`, not defined for the two NaN bytes (R105). -/
def val152 (x : F152) : Option ℚ :=
  if x.isNan then none
  else if x.exp.toNat = 0 then some (signFactor x.sign * ((x.mant.toNat : ℚ) / 4) * (2 : ℚ) ^ (-14 : ℤ))
  else some (signFactor x.sign * (1 + (x.mant.toNat : ℚ) / 4) * (2 : ℚ) ^ ((x.exp.toNat : ℤ) - 15))

/-! The fields of a binary32 pattern (R43). -/

def f32Sign (y : F32) : BitVec 1 := y.extractLsb' 31 1
def f32Exp (y : F32) : BitVec 8 := y.extractLsb' 23 8
def f32Frac (y : F32) : BitVec 23 := y.extractLsb' 0 23

/-- The value of a binary32 pattern by R43, which gives one to the zeros and to `X` in 1 to 254; none otherwise
(infinity, NaN, and the binary32 subnormals, whose value R43 does not state). -/
def f32Value (y : F32) : Option ℚ :=
  if (f32Exp y).toNat = 0 then (if (f32Frac y).toNat = 0 then some 0 else none)
  else if (f32Exp y).toNat = 255 then none
  else some (signFactor (f32Sign y) * (1 + ((f32Frac y).toNat : ℚ) / 2 ^ 23) * (2 : ℚ) ^ (((f32Exp y).toNat : ℤ) - 127))

end Sys2Proof.Machine
end

