-- ==== Sys2Proof/Safety.lean ====
section
/-! DEFINITION. The terms statements are made in: what a transaction yields (R131), what a line's operands stand for
(R52), and when a state's script is one the block can run to its end (R12, R52, R117). -/

namespace Sys2Proof.Machine

/-- The transaction completes and its result is `v` (R131). -/
def yields (i : Instr) (s : State) (v : Value) : Prop :=
  ∃ t, exec i s = .next t ∧ t.results = s.results ++ [v]

/-- The 8-bit value of a format that is the byte (R12). -/
def Value.ofByte (fmt : Format) (b : Byte) : Value :=
  match fmt with
  | .f143 => .f143 ⟨b⟩
  | .f152 => .f152 ⟨b⟩

/-- The operand stands for the byte `b` at a port of format `fmt`: it is that literal, or the name of a result that is
that value of that format (R52, R12). -/
def standsFor (results : List Value) (fmt : Format) (o : Operand) (b : Byte) : Prop :=
  match o with
  | .lit b' => b' = b
  | .name k => results[k]? = some (Value.ofByte fmt b)

/-- Every operand of the line before the `n`-th stands for some byte at its port. -/
def operandsStandBefore (n : Nat) (results : List Value) (l : Line) : Prop :=
  ∀ (m : Nat) (fmt : Format) (o : Operand), m < n → l.op.inputs[m]? = some fmt → l.args[m]? = some o →
    ∃ b, standsFor results fmt o b

/-- The formats of the results bound so far. -/
def State.known (s : State) : List (Option Format) := s.results.map Value.format

/-- Every line still to be run has the operands its operation takes, bound and of the right format. -/
def State.runnable (s : State) : Prop := scriptWellFormed s.known s.script = true

end Sys2Proof.Machine
end

