-- ==== Sys2Proof/Certificates/Slice0/Obligations.lean ====
section
/-! DEFINITION. The statements about the model. A number `n` below is a byte read as an unsigned integer: for an F143
byte its fields are `n / 128`, `n / 8 % 16`, `n % 8` (R36), for an F152 byte `n / 128`, `n / 4 % 32`, `n % 4` (R37). Every
statement is about every build of the block (`State.cfg`) and every host state. -/

open Sys2Proof Sys2Proof.Machine

/-! ### Encoding -/

/-- Decoding the encoding of a transaction gives it back, with every operand at every value; as a line of literals too,
whatever results are bound; and no selection and bytes decode to it but its own. (The form of a line is the model's, log 3.) -/
def Obligations.DecodeOfEncodeIsTheInstruction : Prop :=
  (∀ i : Instr, decode (encode i).1 (encode i).2 = .ok i) ∧
  (∀ (i : Instr) (results : List Value), readLine results (encodeLine i) = .ok i) ∧
  (∀ (op : Op) (bytes : List Byte) (i : Instr), decode op bytes = .ok i → encode i = (op, bytes))

/-- Any bytes are a transaction of any operation that takes that many (every byte is legal, R41; the operand counts are
R48's), and are rejected by name for any other. The rejection and its two names are the model's choice (log 6), and so is
the selection beside the bytes (log 3): R48 gives only the counts. -/
def Obligations.DecodeRejectsExactlyWrongOperandCounts : Prop :=
  ∀ (op : Op) (bytes : List Byte),
    (bytes.length = op.inputs.length → ∃ i, decode op bytes = .ok i) ∧
    (bytes.length < op.inputs.length → decode op bytes = .error .tooFewOperands) ∧
    (op.inputs.length < bytes.length → decode op bytes = .error .tooManyOperands)

/-- A few words written out from R36 and R37, one of each unit and a constant. -/
def Obligations.WordsOfTheSpecDecode : Prop :=
  decode .f143Decode [0b00111000#8] = .ok (.f143Decode ⟨0x38#8⟩) ∧
  decode (.f143FromByte .add143B) [0b11111110#8] = .ok (.f143FromByte .add143B 0xFE#8) ∧
  decode .f143Nan [] = .ok .f143Nan ∧
  decode .f143Add [0b00111000#8, 0b00110000#8] = .ok (.f143Add ⟨0x38#8⟩ ⟨0x30#8⟩) ∧
  decode .f152IsNan [0b01111100#8] = .ok (.f152IsNan ⟨0x7C#8⟩)

/-- The mask and offset constants of R38 give the fields: each field is `(x & mask) >> offset`, and the fields put back
together are the byte. -/
def Obligations.MaskAndOffsetGiveTheFields : Prop :=
  (∀ x : F143,
    Config.f143SignField.get x.byte = x.sign.toNat ∧ Config.f143ExpField.get x.byte = x.exp.toNat ∧
    Config.f143MantField.get x.byte = x.mant.toNat ∧
    x.byte.toNat = x.sign.toNat * 2 ^ 7 + x.exp.toNat * 2 ^ 3 + x.mant.toNat) ∧
  (∀ x : F152,
    Config.f152SignField.get x.byte = x.sign.toNat ∧ Config.f152ExpField.get x.byte = x.exp.toNat ∧
    Config.f152MantField.get x.byte = x.mant.toNat ∧
    x.byte.toNat = x.sign.toNat * 2 ^ 7 + x.exp.toNat * 2 ^ 2 + x.mant.toNat) ∧
  Config.f143SignField = ⟨0x80#8, 7, 1⟩ ∧ Config.f143ExpField = ⟨0x78#8, 3, 4⟩ ∧ Config.f143MantField = ⟨0x07#8, 0, 3⟩ ∧
  Config.f152SignField = ⟨0x80#8, 7, 1⟩ ∧ Config.f152ExpField = ⟨0x7C#8, 2, 5⟩ ∧ Config.f152MantField = ⟨0x03#8, 0, 2⟩ ∧
  Config.f143Bias = 7 ∧ Config.f152Bias = 15

/-- A table word that the decoder reads runs, as the next step, exactly the instruction the decoder reads. (Which
operation a bare word stands for is the model's choice, log 7.) -/
def Obligations.TableWordsRunTheirInstruction : Prop :=
  ∀ (s : State) (nbits w : Nat) (i : Instr),
    decodeTableWord nbits w = some i → step (s.withFetchWord nbits w) = exec i s

/-! ### The step -/

/-- A step runs the transaction its line's literal bytes decode to, with that line taken off the script. -/
def Obligations.StepRunsTheDecodedLine : Prop :=
  ∀ (s : State) (op : Op) (bytes : List Byte) (i : Instr) (rest : List Line),
    decode op bytes = .ok i → s.script = ⟨op, bytes.map .lit⟩ :: rest → step s = exec i { s with script := rest }

/-- A name stands for the result bound to it: on any line whose operands are, each, a literal or the name of a result of
the port's format, in any mixture and position, a step runs the transaction that the bytes they stand for decode to
(R52). That names are positions is the model's choice (log 4). -/
def Obligations.StepPassesNamedResults : Prop :=
  ∀ (s : State) (rest : List Line) (op : Op) (args : List Operand) (bytes : List Byte) (i : Instr),
    args.length = op.inputs.length →
    (∀ (n : Nat) (fmt : Format) (o : Operand) (b : Byte),
      op.inputs[n]? = some fmt → args[n]? = some o → bytes[n]? = some b → standsFor s.results fmt o b) →
    decode op bytes = .ok i → s.script = ⟨op, args⟩ :: rest → step s = exec i { s with script := rest }

/-- At the end of the script a step changes nothing (the model's choice, log 5). -/
def Obligations.StepAfterTheLastLineChangesNothing : Prop :=
  ∀ s : State, s.script = [] → step s = .next s

/-- A step completes exactly on the lines that pass the check of WellFormed.lean and refuses all others (the refusal is
the model's form of "a type error and not a run", log 6). -/
def Obligations.StepRunsExactlyWellFormedLines : Prop :=
  ∀ (s : State) (l : Line) (rest : List Line), s.script = l :: rest →
    (l.wellFormed s.known = true → ∃ t, step s = .next t) ∧
    (l.wellFormed s.known = false → ∃ r, step s = .refused r)

/-- A name nothing has bound, and the name of a result that is no value of the port's format (of the other format, or no
byte), are refused, at every port of every operation. The name refused is the first misused one, the operands before it
being literals or rightly used names. (The refusals, their names and this order are the model's choice, log 6.) -/
def Obligations.MisusedNamesAreRefused : Prop :=
  (∀ (s : State) (rest : List Line) (l : Line) (n : Nat) (fmt : Format) (k : Nat),
    l.op.inputs[n]? = some fmt → l.args[n]? = some (.name k) → s.results[k]? = none →
    operandsStandBefore n s.results l → s.script = l :: rest → step s = .refused (.unboundName k)) ∧
  (∀ (s : State) (rest : List Line) (l : Line) (n : Nat) (fmt : Format) (k : Nat) (v : Value),
    l.op.inputs[n]? = some fmt → l.args[n]? = some (.name k) → s.results[k]? = some v → v.format ≠ some fmt →
    operandsStandBefore n s.results l → s.script = l :: rest → step s = .refused (.formatMismatch k))

/-- An invariant every step keeps: from a state whose remaining script passes the check, a step completes, in such a
state. -/
def Obligations.RunnableStatesStepToRunnableStates : Prop :=
  ∀ s : State, s.runnable → ∃ t, step s = .next t ∧ t.runnable

/-- A script that passes the check runs to its end, whatever stood on the ports: one transaction a line, each binding
one result of its operation's format, with the earlier results and the build as they were (R131). -/
def Obligations.RunnableScriptsRunToTheirEnd : Prop :=
  ∀ s : State, s.runnable →
    ∃ (t : State) (vs : List Value),
      Host.Core.run Sys2Proof.core s.script.length s = .next t ∧ t.script = [] ∧ t.cfg = s.cfg ∧
      t.results = s.results ++ vs ∧ vs.map Value.format = s.script.map fun l => l.op.resultFormat

/-- At reset the invariant above holds, the parameters are the defaults the spec sets, and the host has given no line and
bound no result. -/
def Obligations.ResetIsRunnableWithTheDefaultBuild : Prop :=
  State.reset.runnable ∧ State.reset.cfg.nanCanon.byte = 0x7F#8 ∧ State.reset.cfg.f32NanCanon.bits = 0x7FC00000#32 ∧
  State.reset.script = [] ∧ State.reset.results = []

/-- The parameters of the build are not writable: no step changes them (R19). -/
def Obligations.BuildParametersNeverChange : Prop :=
  ∀ s t : State, step s = .next t → t.cfg = s.cfg

/-- A value once made is never changed (R14): a step keeps every bound result, binds at most one more, and that only
for a line it takes off the script. -/
def Obligations.BoundResultsNeverChange : Prop :=
  ∀ s t : State, step s = .next t →
    (∀ (k : Nat) (v : Value), s.results[k]? = some v → t.results[k]? = some v) ∧
    t.results.length + t.script.length = s.results.length + s.script.length ∧ t.script = s.script.tail

/-! ### Every operation -/

/-- Every operation gives a result for every value of its operands, in any state, and its kind and width are those of R48:
1 bit for SIGN and the predicates, 4 or 5 for EXP, 3 or 2 for MANT, 8 for ADD, the constants and construction, 32 for
DECODE. -/
def Obligations.EveryOperationGivesAResultOfItsWidth : Prop :=
  ∀ (i : Instr) (s : State), ∃ v, yields i s v ∧ v.width = i.op.resultWidth ∧ v.format = i.op.resultFormat

/-- A result depends on the operands and the build only: not on earlier transactions, other ports or the host's state;
and what stands on a unit's outputs depends on what stands on that unit's own inputs only. -/
def Obligations.ResultDependsOnlyOnOperandsAndBuild : Prop :=
  (∀ (i : Instr) (s1 s2 : State) (v : Value), s1.cfg = s2.cfg → yields i s1 v → yields i s2 v) ∧
  (∀ (i : Instr) (s t : State), exec i s = .next t → t.dec143X = s.dec143X → t.dec143Out = s.dec143Out) ∧
  (∀ (i : Instr) (s t : State), exec i s = .next t → t.dec152X = s.dec152X → t.dec152Out = s.dec152Out) ∧
  (∀ (i : Instr) (s t : State), exec i s = .next t → t.add143A = s.add143A → t.add143B = s.add143B →
    t.add143Sum = s.add143Sum)

/-- Two transactions made in either order give the same two results (R31, R32). -/
def Obligations.TransactionsDoNotInteract : Prop :=
  ∀ (i j : Instr) (s t1 t2 u1 u2 : State),
    exec i s = .next t1 → exec j t1 = .next t2 → exec j s = .next u1 → exec i u1 = .next u2 →
    ∃ vi vj, t2.results = s.results ++ [vi, vj] ∧ u2.results = s.results ++ [vj, vi]

/-- The frame of every operation. The build, the rest of the script and the results bound before are unchanged, and one
result is bound. An input port changes only in FROM_BYTE onto it, in an operation of its decoder, or in ADD. That a port
keeps its level through every other transaction is the model's reading (DEDUCED, log 13: R131 does not say what the ports
show between transactions), and that the constants drive no port is too (DEDUCED, log 12). -/
def Obligations.FrameOfEveryOperation : Prop :=
  ∀ (i : Instr) (s t : State), exec i s = .next t →
    t.cfg = s.cfg ∧ t.script = s.script ∧ (∃ v, t.results = s.results ++ [v]) ∧
    ((∀ r, i ≠ .f143FromByte .dec143X r) →
      (∀ x, i ∉ [.f143Sign x, .f143Exp x, .f143Mant x, .f143IsSubnormal x, .f143IsZero x, .f143IsNegZero x, .f143IsNan x,
        .f143Decode x]) → t.dec143X = s.dec143X) ∧
    ((∀ r, i ≠ .f152FromByte r) →
      (∀ x, i ∉ [.f152Sign x, .f152Exp x, .f152Mant x, .f152IsSubnormal x, .f152IsZero x, .f152IsNegZero x, .f152IsNan x,
        .f152Decode x]) → t.dec152X = s.dec152X) ∧
    ((∀ r, i ≠ .f143FromByte .add143A r) → (∀ a b, i ≠ .f143Add a b) → t.add143A = s.add143A) ∧
    ((∀ r, i ≠ .f143FromByte .add143B r) → (∀ a b, i ≠ .f143Add a b) → t.add143B = s.add143B)

/-- Driving a byte onto a decoder's port puts on all eight outputs at once what each operation yields of it, and driving
two bytes onto the adder's ports, in either order, puts their sum on `sum` (R44 to R46, R126). That the byte driven first
still stands on the adder when the second is driven, and that FROM_BYTE leaves its byte standing, is the model's reading
(DEDUCED, log 13: R131 does not say what the ports show between transactions). -/
def Obligations.DrivenPortsShowEveryOutput : Prop :=
  (∀ (s t : State) (r : Byte), exec (.f143FromByte .dec143X r) s = .next t →
    yields (.f143Sign ⟨r⟩) s (.bit t.dec143Out.sign) ∧ yields (.f143Exp ⟨r⟩) s (.exp143 t.dec143Out.exp) ∧
    yields (.f143Mant ⟨r⟩) s (.mant143 t.dec143Out.mant) ∧ yields (.f143IsSubnormal ⟨r⟩) s (.bit t.dec143Out.isSubnormal) ∧
    yields (.f143IsZero ⟨r⟩) s (.bit t.dec143Out.isZero) ∧ yields (.f143IsNegZero ⟨r⟩) s (.bit t.dec143Out.isNegZero) ∧
    yields (.f143IsNan ⟨r⟩) s (.bit t.dec143Out.isNan) ∧ yields (.f143Decode ⟨r⟩) s (.f32 t.dec143Out.f32)) ∧
  (∀ (s t : State) (r : Byte), exec (.f152FromByte r) s = .next t →
    yields (.f152Sign ⟨r⟩) s (.bit t.dec152Out.sign) ∧ yields (.f152Exp ⟨r⟩) s (.exp152 t.dec152Out.exp) ∧
    yields (.f152Mant ⟨r⟩) s (.mant152 t.dec152Out.mant) ∧ yields (.f152IsSubnormal ⟨r⟩) s (.bit t.dec152Out.isSubnormal) ∧
    yields (.f152IsZero ⟨r⟩) s (.bit t.dec152Out.isZero) ∧ yields (.f152IsNegZero ⟨r⟩) s (.bit t.dec152Out.isNegZero) ∧
    yields (.f152IsNan ⟨r⟩) s (.bit t.dec152Out.isNan) ∧ yields (.f152Decode ⟨r⟩) s (.f32 t.dec152Out.f32)) ∧
  (∀ (s t1 t2 : State) (a b : Byte),
    (exec (.f143FromByte .add143A a) s = .next t1 ∧ exec (.f143FromByte .add143B b) t1 = .next t2) ∨
    (exec (.f143FromByte .add143B b) s = .next t1 ∧ exec (.f143FromByte .add143A a) t1 = .next t2) →
    yields (.f143Add ⟨a⟩ ⟨b⟩) s (.f143 t2.add143Sum))

/-! ### F143: construction, fields, classification -/

/-- FROM_BYTE gives the byte unchanged, whatever byte, on the port the host names (R54); the constants are 0x00, 0x80 and
the build's `NAN_CANON`, and are classified and decoded as R55 to R57 say. What the equations say of the ports is the
model's reading: that FROM_BYTE's byte stands and every other port keeps its level (DEDUCED, log 13), and that FROM_BYTE
carries the port it drives and the constants drive none (DEDUCED, log 12). -/
def Obligations.F143ConstructionResults : Prop :=
  ∀ (s : State) (r : Byte),
    exec (.f143FromByte .dec143X r) s = .next { s with dec143X := ⟨r⟩, results := s.results ++ [.f143 ⟨r⟩] } ∧
    exec (.f143FromByte .add143A r) s = .next { s with add143A := ⟨r⟩, results := s.results ++ [.f143 ⟨r⟩] } ∧
    exec (.f143FromByte .add143B r) s = .next { s with add143B := ⟨r⟩, results := s.results ++ [.f143 ⟨r⟩] } ∧
    exec .f143Zero s = .next { s with results := s.results ++ [.f143 ⟨0x00#8⟩] } ∧
    exec .f143NegZero s = .next { s with results := s.results ++ [.f143 ⟨0x80#8⟩] } ∧
    exec .f143Nan s = .next { s with results := s.results ++ [.f143 ⟨s.cfg.nanCanon.byte⟩] } ∧
    yields (.f143IsZero ⟨0x00#8⟩) s (.bit 1#1) ∧ yields (.f143Decode ⟨0x00#8⟩) s (.f32 0x00000000#32) ∧
    yields (.f143IsNegZero ⟨0x80#8⟩) s (.bit 1#1) ∧ yields (.f143IsZero ⟨0x80#8⟩) s (.bit 0#1) ∧
    yields (.f143Decode ⟨0x80#8⟩) s (.f32 0x80000000#32) ∧ yields (.f143IsNan ⟨s.cfg.nanCanon.byte⟩) s (.bit 1#1)

/-- SIGN, EXP and MANT of an F143 byte are its bit 7, bits 6 to 3 and bits 2 to 0, as stored, for every class (R58 to
R60). That the byte then stands on `DEC143.x` and every other port keeps its level is the model's reading (DEDUCED, log
13). -/
def Obligations.F143FieldResults : Prop :=
  ∀ (s : State) (x : F143),
    exec (.f143Sign x) s = .next { s with dec143X := x, results := s.results ++ [.bit (BitVec.ofNat 1 (x.byte.toNat / 128))] } ∧
    exec (.f143Exp x) s =
      .next { s with dec143X := x, results := s.results ++ [.exp143 (BitVec.ofNat 4 (x.byte.toNat / 8 % 16))] } ∧
    exec (.f143Mant x) s = .next { s with dec143X := x, results := s.results ++ [.mant143 (BitVec.ofNat 3 (x.byte.toNat % 8))] }

/-- The four predicates of F143, 1 for true: subnormal is exponent field 0 and mantissa field not 0; zero is the byte 0x00
only; negative zero the byte 0x80 only; NaN is both fields all ones, whatever the sign, and exponent field 15 alone is a
number of magnitude 256 to 448 (R61 to R64). That the byte then stands on `DEC143.x` and every other port keeps its level
is the model's reading (DEDUCED, log 13). -/
def Obligations.F143ClassificationResults : Prop :=
  ∀ (s : State) (x : F143),
    exec (.f143IsSubnormal x) s = .next { s with dec143X := x, results := s.results ++
      [.bit (if x.byte.toNat / 8 % 16 = 0 ∧ x.byte.toNat % 8 ≠ 0 then 1#1 else 0#1)] } ∧
    exec (.f143IsZero x) s = .next { s with dec143X := x, results := s.results ++
      [.bit (if x.byte.toNat = 0 then 1#1 else 0#1)] } ∧
    exec (.f143IsNegZero x) s = .next { s with dec143X := x, results := s.results ++
      [.bit (if x.byte.toNat = 128 then 1#1 else 0#1)] } ∧
    exec (.f143IsNan x) s = .next { s with dec143X := x, results := s.results ++
      [.bit (if x.byte.toNat / 8 % 16 = 15 ∧ x.byte.toNat % 8 = 7 then 1#1 else 0#1)] } ∧
    (x.byte.toNat / 8 % 16 = 15 → x.byte.toNat % 8 ≠ 7 → ∃ q, val143 x = some q ∧ 256 ≤ |q| ∧ |q| ≤ 448)

/-- Every byte of either format is in exactly one of the five classes, and the classes have the sizes of R39 and R40. -/
def Obligations.EveryByteIsInExactlyOneClass : Prop :=
  (∀ x : F143, [x.isZero, x.isNegZero, x.isSubnormal, x.isNan, x.isNormal].count true = 1 ∧
    (x.isNormal = true ↔ x.exp ≠ 0#4 ∧ ¬(x.exp = 15#4 ∧ x.mant = 7#3))) ∧
  (∀ x : F152, [x.isZero, x.isNegZero, x.isSubnormal, x.isNan, x.isNormal].count true = 1 ∧
    (x.isNormal = true ↔ x.exp ≠ 0#5 ∧ ¬(x.exp = 31#5 ∧ x.mant = 3#2))) ∧
  ((List.range 256).countP fun n => F143.isZero ⟨BitVec.ofNat 8 n⟩) = 1 ∧
  ((List.range 256).countP fun n => F143.isNegZero ⟨BitVec.ofNat 8 n⟩) = 1 ∧
  ((List.range 256).countP fun n => F143.isSubnormal ⟨BitVec.ofNat 8 n⟩) = 14 ∧
  ((List.range 256).countP fun n => F143.isNan ⟨BitVec.ofNat 8 n⟩) = 2 ∧
  ((List.range 256).countP fun n => F143.isNormal ⟨BitVec.ofNat 8 n⟩) = 238 ∧
  ((List.range 256).countP fun n => F152.isZero ⟨BitVec.ofNat 8 n⟩) = 1 ∧
  ((List.range 256).countP fun n => F152.isNegZero ⟨BitVec.ofNat 8 n⟩) = 1 ∧
  ((List.range 256).countP fun n => F152.isSubnormal ⟨BitVec.ofNat 8 n⟩) = 6 ∧
  ((List.range 256).countP fun n => F152.isNan ⟨BitVec.ofNat 8 n⟩) = 2 ∧
  ((List.range 256).countP fun n => F152.isNormal ⟨BitVec.ofNat 8 n⟩) = 246

/-! ### F143: decode -/

/-- The pattern F143.DECODE gives, as a number, branch by branch of R66's pseudocode. That the byte then stands on
`DEC143.x` and every other port keeps its level is the model's reading (DEDUCED, log 13). -/
def Obligations.F143DecodeResult : Prop :=
  ∀ (s : State) (x : F143), ∃ y : F32,
    exec (.f143Decode x) s = .next { s with dec143X := x, results := s.results ++ [.f32 y] } ∧
    (x.byte.toNat / 8 % 16 = 15 → x.byte.toNat % 8 = 7 → y = s.cfg.f32NanCanon.bits) ∧
    (x.byte.toNat / 8 % 16 = 0 → x.byte.toNat % 8 = 0 → y.toNat = x.byte.toNat / 128 * 2 ^ 31) ∧
    (∀ k, x.byte.toNat / 8 % 16 = 0 → 2 ^ k ≤ x.byte.toNat % 8 → x.byte.toNat % 8 < 2 ^ (k + 1) →
      y.toNat = x.byte.toNat / 128 * 2 ^ 31 + (118 + k) * 2 ^ 23 + (x.byte.toNat % 8 - 2 ^ k) * 2 ^ (23 - k)) ∧
    (x.byte.toNat / 8 % 16 ≠ 0 → ¬(x.byte.toNat / 8 % 16 = 15 ∧ x.byte.toNat % 8 = 7) →
      y.toNat = x.byte.toNat / 128 * 2 ^ 31 + (x.byte.toNat / 8 % 16 + 120) * 2 ^ 23 + x.byte.toNat % 8 * 2 ^ 20)

/-- The decode of a number is exact: the pattern's value is `val143`, its exponent field lies in 118 to 135 unless the
number is zero (so it is no binary32 subnormal and no infinity), and its low 20 fraction bits are 0. -/
def Obligations.F143DecodeIsExact : Prop :=
  ∀ (s : State) (x : F143) (q : ℚ), val143 x = some q →
    ∃ y, yields (.f143Decode x) s (.f32 y) ∧ f32Value y = some q ∧
      (q ≠ 0 → 118 ≤ (f32Exp y).toNat ∧ (f32Exp y).toNat ≤ 135) ∧ (f32Frac y).toNat % 2 ^ 20 = 0

/-- Sign symmetry, injectivity off NaN, order of the non-negative numbers, and the source's law of the exponent field. -/
def Obligations.F143DecodeLaws : Prop :=
  (∀ (s : State) (x : F143), x.isNan = false →
    ∃ y, yields (.f143Decode x) s (.f32 y) ∧ yields (.f143Decode x.neg) s (.f32 (y ^^^ 0x80000000#32))) ∧
  (∀ (s : State) (x1 x2 : F143) (y : F32), x1.isNan = false → x2.isNan = false →
    yields (.f143Decode x1) s (.f32 y) → yields (.f143Decode x2) s (.f32 y) → x1 = x2) ∧
  (∀ (s : State) (y0 y1 : F32), yields (.f143Decode ⟨0x00#8⟩) s (.f32 y0) → yields (.f143Decode ⟨0x80#8⟩) s (.f32 y1) →
    y1 = y0 ^^^ 0x80000000#32) ∧
  (∀ (x1 x2 : F143) (q1 q2 : ℚ), x1.sign = 0#1 → x2.sign = 0#1 → val143 x1 = some q1 → val143 x2 = some q2 →
    (x1.byte.toNat < x2.byte.toNat ↔ q1 < q2)) ∧
  (∀ (x1 x2 : F143) (q1 q2 : ℚ), x1.isNormal = true → x2.isNormal = true → x1.sign = x2.sign → x1.mant = x2.mant →
    x1.exp < x2.exp → val143 x1 = some q1 → val143 x2 = some q2 → |q1| < |q2|)

/-- Signed zeros decode to the two zero patterns. -/
def Obligations.SignedZerosDecodeToSignedZeros : Prop :=
  ∀ s : State,
    yields (.f143Decode ⟨0x00#8⟩) s (.f32 0x00000000#32) ∧ yields (.f143Decode ⟨0x80#8⟩) s (.f32 0x80000000#32) ∧
    yields (.f152Decode ⟨0x00#8⟩) s (.f32 0x00000000#32) ∧ yields (.f152Decode ⟨0x80#8⟩) s (.f32 0x80000000#32)

/-- NaN bytes, whatever their sign, are reported as NaN and decode to the build's canonical pattern, which is a binary32
NaN; no other byte does; and no byte of either format decodes to what the generic formula would give for the NaN bytes. -/
def Obligations.NanIsTestedFirstInDecode : Prop :=
  (∀ (s : State) (x : F143), x.exp = 15#4 → x.mant = 7#3 →
    yields (.f143IsNan x) s (.bit 1#1) ∧ yields (.f143Decode x) s (.f32 s.cfg.f32NanCanon.bits)) ∧
  (∀ (s : State) (x : F143) (y : F32), yields (.f143Decode x) s (.f32 y) →
    y ≠ 0x43F00000#32 ∧ y ≠ 0xC3F00000#32 ∧ (f32IsNan y = true ↔ x.exp = 15#4 ∧ x.mant = 7#3)) ∧
  (∀ (s : State) (x : F152), x.exp = 31#5 → x.mant = 3#2 →
    yields (.f152IsNan x) s (.bit 1#1) ∧ yields (.f152Decode x) s (.f32 s.cfg.f32NanCanon.bits)) ∧
  (∀ (s : State) (x : F152) (y : F32), yields (.f152Decode x) s (.f32 y) →
    y ≠ 0x47E00000#32 ∧ y ≠ 0xC7E00000#32 ∧ (f32IsNan y = true ↔ x.exp = 31#5 ∧ x.mant = 3#2))

/-! ### F152 -/

/-- FROM_BYTE gives the byte unchanged; SIGN, EXP and MANT are bit 7, bits 6 to 2 and bits 1 to 0, as stored (R93 to R96).
That the byte then stands on `DEC152.x` and every other port keeps its level is the model's reading (DEDUCED, log 13). -/
def Obligations.F152ConstructionAndFieldResults : Prop :=
  ∀ (s : State) (r : Byte) (x : F152),
    exec (.f152FromByte r) s = .next { s with dec152X := ⟨r⟩, results := s.results ++ [.f152 ⟨r⟩] } ∧
    exec (.f152Sign x) s = .next { s with dec152X := x, results := s.results ++ [.bit (BitVec.ofNat 1 (x.byte.toNat / 128))] } ∧
    exec (.f152Exp x) s =
      .next { s with dec152X := x, results := s.results ++ [.exp152 (BitVec.ofNat 5 (x.byte.toNat / 4 % 32))] } ∧
    exec (.f152Mant x) s = .next { s with dec152X := x, results := s.results ++ [.mant152 (BitVec.ofNat 2 (x.byte.toNat % 4))] }

/-- The four predicates of F152, the mirror of F143's; exponent field 31 alone is no NaN but a number (R97 to R100). That
the byte then stands on `DEC152.x` and every other port keeps its level is the model's reading (DEDUCED, log 13). -/
def Obligations.F152ClassificationResults : Prop :=
  ∀ (s : State) (x : F152),
    exec (.f152IsSubnormal x) s = .next { s with dec152X := x, results := s.results ++
      [.bit (if x.byte.toNat / 4 % 32 = 0 ∧ x.byte.toNat % 4 ≠ 0 then 1#1 else 0#1)] } ∧
    exec (.f152IsZero x) s = .next { s with dec152X := x, results := s.results ++
      [.bit (if x.byte.toNat = 0 then 1#1 else 0#1)] } ∧
    exec (.f152IsNegZero x) s = .next { s with dec152X := x, results := s.results ++
      [.bit (if x.byte.toNat = 128 then 1#1 else 0#1)] } ∧
    exec (.f152IsNan x) s = .next { s with dec152X := x, results := s.results ++
      [.bit (if x.byte.toNat / 4 % 32 = 31 ∧ x.byte.toNat % 4 = 3 then 1#1 else 0#1)] } ∧
    val152 ⟨0x7C#8⟩ = some 65536 ∧ val152 ⟨0x7D#8⟩ = some 81920 ∧ val152 ⟨0x7E#8⟩ = some 98304 ∧
    val152 ⟨0xFC#8⟩ = some (-65536) ∧ val152 ⟨0xFD#8⟩ = some (-81920) ∧ val152 ⟨0xFE#8⟩ = some (-98304)

/-- The pattern F152.DECODE gives, as a number, branch by branch of R102's pseudocode. That the byte then stands on
`DEC152.x` and every other port keeps its level is the model's reading (DEDUCED, log 13). -/
def Obligations.F152DecodeResult : Prop :=
  ∀ (s : State) (x : F152), ∃ y : F32,
    exec (.f152Decode x) s = .next { s with dec152X := x, results := s.results ++ [.f32 y] } ∧
    (x.byte.toNat / 4 % 32 = 31 → x.byte.toNat % 4 = 3 → y = s.cfg.f32NanCanon.bits) ∧
    (x.byte.toNat / 4 % 32 = 0 → x.byte.toNat % 4 = 0 → y.toNat = x.byte.toNat / 128 * 2 ^ 31) ∧
    (∀ k, x.byte.toNat / 4 % 32 = 0 → 2 ^ k ≤ x.byte.toNat % 4 → x.byte.toNat % 4 < 2 ^ (k + 1) →
      y.toNat = x.byte.toNat / 128 * 2 ^ 31 + (111 + k) * 2 ^ 23 + (x.byte.toNat % 4 - 2 ^ k) * 2 ^ (23 - k)) ∧
    (x.byte.toNat / 4 % 32 ≠ 0 → ¬(x.byte.toNat / 4 % 32 = 31 ∧ x.byte.toNat % 4 = 3) →
      y.toNat = x.byte.toNat / 128 * 2 ^ 31 + (x.byte.toNat / 4 % 32 + 112) * 2 ^ 23 + x.byte.toNat % 4 * 2 ^ 21)

/-- F152.DECODE is exact, in the range R106 gives, sign-symmetric, injective off NaN, and in the order of the bytes; and
the values of exponent field 15 are the quarters from 1 (R107's check of the bias and the mantissa weight). -/
def Obligations.F152DecodeIsExactAndOrdered : Prop :=
  (∀ (s : State) (x : F152) (q : ℚ), val152 x = some q →
    ∃ y, yields (.f152Decode x) s (.f32 y) ∧ yields (.f152Decode x.neg) s (.f32 (y ^^^ 0x80000000#32)) ∧
      f32Value y = some q ∧
      (q ≠ 0 → 111 ≤ (f32Exp y).toNat ∧ (f32Exp y).toNat ≤ 143) ∧ (f32Frac y).toNat % 2 ^ 21 = 0) ∧
  (∀ (s : State) (x1 x2 : F152) (y : F32), x1.isNan = false → x2.isNan = false →
    yields (.f152Decode x1) s (.f32 y) → yields (.f152Decode x2) s (.f32 y) → x1 = x2) ∧
  (∀ (x1 x2 : F152) (q1 q2 : ℚ), x1.sign = 0#1 → x2.sign = 0#1 → val152 x1 = some q1 → val152 x2 = some q2 →
    (x1.byte.toNat < x2.byte.toNat ↔ q1 < q2)) ∧
  (∀ x : F152, x.sign = 0#1 → x.exp = 15#5 → val152 x = some (1 + (x.mant.toNat : ℚ) / 4))

/-! ### F143: addition -/

/-- The sum, by R73's algorithm in integer arithmetic: `M x` is the magnitude in units of `2^-9`, `S` the signed sum, `p`
the place of its leading one; below 8 units it is exact, from there on the four leading bits are rounded to nearest, ties
to even (the dropped part is compared with half), the carry goes into the exponent, and what does not fit is NaN. That
the operands then stand on `ADD143.a` and `ADD143.b` and every other port keeps its level is the model's reading (DEDUCED,
log 13). -/
def Obligations.F143AddResult : Prop :=
  ∀ (s : State) (a b : F143),
    let e := fun x : F143 => x.byte.toNat / 8 % 16
    let m := fun x : F143 => x.byte.toNat % 8
    let M := fun x : F143 => (if e x = 0 then m x else 8 + m x) * 2 ^ ((if e x = 0 then 1 else e x) - 1)
    let S : ℤ := (if 128 ≤ a.byte.toNat then -(M a : ℤ) else M a) + (if 128 ≤ b.byte.toNat then -(M b : ℤ) else M b)
    let sr := if S < 0 then 128 else 0
    let nan := (e a = 15 ∧ m a = 7) ∨ (e b = 15 ∧ m b = 7)
    ∃ r : F143,
      exec (.f143Add a b) s = .next { s with add143A := a, add143B := b, results := s.results ++ [.f143 r] } ∧
      (nan → r.byte = s.cfg.nanCanon.byte) ∧
      (¬nan → S = 0 → r.byte.toNat = if 128 ≤ a.byte.toNat ∧ 128 ≤ b.byte.toNat then 128 else 0) ∧
      (¬nan → ∀ p, 2 ^ p ≤ S.natAbs → S.natAbs < 2 ^ (p + 1) → p ≤ 2 → r.byte.toNat = sr + S.natAbs) ∧
      (¬nan → ∀ p, 2 ^ p ≤ S.natAbs → S.natAbs < 2 ^ (p + 1) → 3 ≤ p →
        let q := S.natAbs / 2 ^ (p - 3)
        let rest := S.natAbs % 2 ^ (p - 3)
        let up := 2 ^ (p - 3) < 2 * rest ∨ (2 * rest = 2 ^ (p - 3) ∧ q % 2 = 1)
        let q2 := if up then q + 1 else q
        let er := if q2 = 16 then p - 1 else p - 2
        let f := if q2 = 16 then 8 else q2
        if 15 < er ∨ (er = 15 ∧ f = 15) then r.byte = s.cfg.nanCanon.byte
        else r.byte.toNat = sr + er * 8 + (f - 8))

/-- The sum is the exact sum rounded once to nearest, ties to even; NaN past 464, and 448 at the tie 464 itself. -/
def Obligations.F143AddIsTheExactSumRoundedOnce : Prop :=
  ∀ (s : State) (a b : F143) (va vb : ℚ), val143 a = some va → val143 b = some vb →
    ∃ r, yields (.f143Add a b) s (.f143 r) ∧
      (va + vb = 0 → r.byte = if a.sign = 1#1 ∧ b.sign = 1#1 then 0x80#8 else 0x00#8) ∧
      (464 < |va + vb| → r.byte = s.cfg.nanCanon.byte) ∧
      (va + vb ≠ 0 → |va + vb| ≤ 464 →
        ∃ vr, val143 r = some vr ∧ (r.sign = 1#1 ↔ va + vb < 0) ∧ (|va + vb| = 464 → |vr| = 448) ∧
          ∀ (c : F143) (vc : ℚ), val143 c = some vc →
            |(|vr| - |va + vb|)| ≤ |(|vc| - |va + vb|)| ∧
            (|(|vc| - |va + vb|)| = |(|vr| - |va + vb|)| → |vc| ≠ |vr| → r.byte.toNat % 2 = 0))

/-- The document's own datapath, shifting the smaller operand right, gives the sum of every pair. -/
def Obligations.TheDocumentsDatapathGivesTheSameSum : Prop :=
  ∀ (s : State) (a b : F143), yields (.f143Add a b) s (.f143 (addF143ByExponent s.cfg a b))

/-- A NaN operand gives NaN, whatever the other; and every NaN result, from an operand or from overflow, is the one byte
`NAN_CANON` of the build. -/
def Obligations.NanSumsAreTheCanonicalNan : Prop :=
  (∀ (s : State) (n v : F143), n.isNan = true →
    ∃ r, yields (.f143Add n v) s (.f143 r) ∧ yields (.f143Add v n) s (.f143 r) ∧ r.isNan = true) ∧
  (∀ (s : State) (a b r : F143), yields (.f143Add a b) s (.f143 r) → r.isNan = true → r.byte = s.cfg.nanCanon.byte)

/-- A sum of numbers is NaN exactly when its exact magnitude is past 464. -/
def Obligations.SumsOverflowExactlyPast464 : Prop :=
  ∀ (s : State) (a b : F143) (va vb : ℚ), val143 a = some va → val143 b = some vb →
    ∃ r, yields (.f143Add a b) s (.f143 r) ∧ (r.isNan = true ↔ 464 < |va + vb|)

/-- A sum is a zero byte exactly when it is exactly zero, with sign bit 1 exactly when both operands are negative zero:
an addition never underflows to zero. -/
def Obligations.ZeroSumsAreExactZeros : Prop :=
  ∀ (s : State) (a b : F143) (va vb : ℚ), val143 a = some va → val143 b = some vb →
    ∃ r, yields (.f143Add a b) s (.f143 r) ∧
      ((r.byte = 0x00#8 ∨ r.byte = 0x80#8) ↔ va + vb = 0) ∧
      (va + vb = 0 → r.sign = a.sign &&& b.sign) ∧
      (r.byte = 0x80#8 ↔ a.byte = 0x80#8 ∧ b.byte = 0x80#8)

/-- Adding either zero, on either side, gives the other operand back bit for bit, but for negative zero plus positive
zero, which is positive zero. -/
def Obligations.AddingZeroGivesTheOtherOperand : Prop :=
  (∀ (s : State) (v : F143), v.isNan = false → v.byte ≠ 0x80#8 →
    yields (.f143Add v ⟨0x00#8⟩) s (.f143 v) ∧ yields (.f143Add v ⟨0x80#8⟩) s (.f143 v) ∧
    yields (.f143Add ⟨0x00#8⟩ v) s (.f143 v) ∧ yields (.f143Add ⟨0x80#8⟩ v) s (.f143 v)) ∧
  (∀ s : State, yields (.f143Add ⟨0x80#8⟩ ⟨0x80#8⟩) s (.f143 ⟨0x80#8⟩) ∧
    yields (.f143Add ⟨0x80#8⟩ ⟨0x00#8⟩) s (.f143 ⟨0x00#8⟩))

/-- Addition commutes bit for bit, NaN operands included. -/
def Obligations.AdditionCommutes : Prop :=
  ∀ (s : State) (a b : F143), ∃ r, yields (.f143Add a b) s (.f143 r) ∧ yields (.f143Add b a) s (.f143 r)

/-- Flipping both signs flips the sign of a sum that is not exactly zero, but for a sum that is NaN, which stays
`NAN_CANON`; of an exact zero sum only when both operands
are the same zero. -/
def Obligations.NegatingBothOperandsNegatesTheSum : Prop :=
  (∀ (s : State) (a b r : F143) (va vb : ℚ), val143 a = some va → val143 b = some vb → va + vb ≠ 0 →
    yields (.f143Add a b) s (.f143 r) →
    yields (.f143Add a.neg b.neg) s (.f143 (if r.isNan then r else r.neg))) ∧
  (∀ (s : State) (a b : F143) (va vb : ℚ), val143 a = some va → val143 b = some vb → va + vb = 0 →
    ¬(a = b) → yields (.f143Add a b) s (.f143 ⟨0x00#8⟩) ∧ yields (.f143Add a.neg b.neg) s (.f143 ⟨0x00#8⟩)) ∧
  (∀ s : State, yields (.f143Add ⟨0x00#8⟩ ⟨0x00#8⟩) s (.f143 ⟨0x00#8⟩) ∧
    yields (.f143Add ⟨0x80#8⟩ ⟨0x80#8⟩) s (.f143 ⟨0x80#8⟩))

/-- Doubling is exact up to 224 (exponent field plus one for a normal number, the low bits shifted left once for a
subnormal), and NaN from 240 on. -/
def Obligations.DoublingIsExactUpTo224 : Prop :=
  ∀ (s : State) (x : F143) (q : ℚ), val143 x = some q →
    ∃ r, yields (.f143Add x x) s (.f143 r) ∧
      (|q| ≤ 224 → val143 r = some (2 * q)) ∧
      (|q| ≤ 224 → x.isNormal = true → r.byte = x.byte + 0x08#8) ∧
      (x.isSubnormal = true → r.byte.toNat = x.byte.toNat / 128 * 128 + 2 * (x.byte.toNat % 8)) ∧
      (240 ≤ |q| → r.byte = s.cfg.nanCanon.byte)

/-- Addition is monotone: a larger right operand gives no smaller sum. -/
def Obligations.AdditionIsMonotone : Prop :=
  ∀ (s : State) (a b1 b2 r1 r2 : F143) (w1 w2 v1 v2 : ℚ), a.isNan = false →
    val143 b1 = some w1 → val143 b2 = some w2 → w1 ≤ w2 →
    yields (.f143Add a b1) s (.f143 r1) → yields (.f143Add a b2) s (.f143 r2) →
    val143 r1 = some v1 → val143 r2 = some v2 → v1 ≤ v2

/-- The integers the adder works on are exact and bounded: a number is its grid integer times `2^-9`, of at most 229376
units, and the sum of two is their exact sum, of at most 458752 units. -/
def Obligations.GridArithmeticIsExact : Prop :=
  (∀ (x : F143) (q : ℚ), val143 x = some q →
    q = (gridInt x : ℚ) / 512 ∧ gridInt x = (if x.sign = 1#1 then -(gridMag x : ℤ) else gridMag x) ∧ gridMag x ≤ 229376) ∧
  (∀ (a b : F143) (va vb : ℚ), val143 a = some va → val143 b = some vb →
    va + vb = ((gridInt a + gridInt b : ℤ) : ℚ) / 512 ∧ -458752 ≤ gridInt a + gridInt b ∧ gridInt a + gridInt b ≤ 458752)

/-- A sum whose result has exponent field 0 or 1 is exact (no bit is dropped below 16 units). -/
def Obligations.SumsInTheSubnormalRangeAreExact : Prop :=
  ∀ (s : State) (a b r : F143) (va vb : ℚ), val143 a = some va → val143 b = some vb →
    yields (.f143Add a b) s (.f143 r) → r.exp.toNat ≤ 1 → val143 r = some (va + vb)
end

