-- ==== Sys2Proof/Laws/Bytes.lean ====
section
/-! SUPPORT. A fact about every value of a format is a fact about 256 bytes, and what the canonical NaNs are. -/

namespace Sys2Proof

theorem F143.forall_iff {P : F143 → Prop} : (∀ x : F143, P x) ↔ ∀ b : Byte, P ⟨b⟩ :=
  ⟨fun h b => h ⟨b⟩, fun h x => h x.byte⟩

theorem F152.forall_iff {P : F152 → Prop} : (∀ x : F152, P x) ↔ ∀ b : Byte, P ⟨b⟩ :=
  ⟨fun h b => h ⟨b⟩, fun h x => h x.byte⟩

namespace Machine

/-- The byte of a NaN result is a NaN byte in every build (R6). -/
theorem canonNan_isNan (cfg : Config) : (canonNan cfg).isNan = true := by
  rcases cfg with ⟨⟨_, rfl | rfl⟩, _⟩
  · exact (by decide : F143.isNan ⟨0x7F#8⟩ = true)
  · exact (by decide : F143.isNan ⟨0xFF#8⟩ = true)

/-- The pattern of a decoded NaN is a binary32 NaN in every build (R7). -/
theorem f32NanCanon_isNan (cfg : Config) : f32IsNan cfg.f32NanCanon.bits = true := cfg.f32NanCanon.isNan

end Machine

end Sys2Proof
end

