-- ==== Sys2Proof/Laws/State.lean ====
section
/-! SUPPORT. One lemma per field per update of State, so that no later proof unfolds a record update. -/

namespace Sys2Proof.Machine

variable (s : State) (x : F143) (y : F152) (v : Value) (port : F143Port)

@[simp] theorem State.driveDec143_cfg : (s.driveDec143 x).cfg = s.cfg := rfl
@[simp] theorem State.driveDec143_dec143X : (s.driveDec143 x).dec143X = x := rfl
@[simp] theorem State.driveDec143_dec152X : (s.driveDec143 x).dec152X = s.dec152X := rfl
@[simp] theorem State.driveDec143_add143A : (s.driveDec143 x).add143A = s.add143A := rfl
@[simp] theorem State.driveDec143_add143B : (s.driveDec143 x).add143B = s.add143B := rfl
@[simp] theorem State.driveDec143_script : (s.driveDec143 x).script = s.script := rfl
@[simp] theorem State.driveDec143_results : (s.driveDec143 x).results = s.results := rfl

@[simp] theorem State.driveDec152_cfg : (s.driveDec152 y).cfg = s.cfg := rfl
@[simp] theorem State.driveDec152_dec143X : (s.driveDec152 y).dec143X = s.dec143X := rfl
@[simp] theorem State.driveDec152_dec152X : (s.driveDec152 y).dec152X = y := rfl
@[simp] theorem State.driveDec152_add143A : (s.driveDec152 y).add143A = s.add143A := rfl
@[simp] theorem State.driveDec152_add143B : (s.driveDec152 y).add143B = s.add143B := rfl
@[simp] theorem State.driveDec152_script : (s.driveDec152 y).script = s.script := rfl
@[simp] theorem State.driveDec152_results : (s.driveDec152 y).results = s.results := rfl

@[simp] theorem State.driveAddA_cfg : (s.driveAddA x).cfg = s.cfg := rfl
@[simp] theorem State.driveAddA_dec143X : (s.driveAddA x).dec143X = s.dec143X := rfl
@[simp] theorem State.driveAddA_dec152X : (s.driveAddA x).dec152X = s.dec152X := rfl
@[simp] theorem State.driveAddA_add143A : (s.driveAddA x).add143A = x := rfl
@[simp] theorem State.driveAddA_add143B : (s.driveAddA x).add143B = s.add143B := rfl
@[simp] theorem State.driveAddA_script : (s.driveAddA x).script = s.script := rfl
@[simp] theorem State.driveAddA_results : (s.driveAddA x).results = s.results := rfl

@[simp] theorem State.driveAddB_cfg : (s.driveAddB x).cfg = s.cfg := rfl
@[simp] theorem State.driveAddB_dec143X : (s.driveAddB x).dec143X = s.dec143X := rfl
@[simp] theorem State.driveAddB_dec152X : (s.driveAddB x).dec152X = s.dec152X := rfl
@[simp] theorem State.driveAddB_add143A : (s.driveAddB x).add143A = s.add143A := rfl
@[simp] theorem State.driveAddB_add143B : (s.driveAddB x).add143B = x := rfl
@[simp] theorem State.driveAddB_script : (s.driveAddB x).script = s.script := rfl
@[simp] theorem State.driveAddB_results : (s.driveAddB x).results = s.results := rfl

@[simp] theorem State.driveF143_dec143X_eq : s.driveF143 .dec143X x = s.driveDec143 x := rfl
@[simp] theorem State.driveF143_add143A_eq : s.driveF143 .add143A x = s.driveAddA x := rfl
@[simp] theorem State.driveF143_add143B_eq : s.driveF143 .add143B x = s.driveAddB x := rfl
@[simp] theorem State.driveF143_cfg : (s.driveF143 port x).cfg = s.cfg := by cases port <;> rfl
@[simp] theorem State.driveF143_dec152X : (s.driveF143 port x).dec152X = s.dec152X := by cases port <;> rfl
@[simp] theorem State.driveF143_script : (s.driveF143 port x).script = s.script := by cases port <;> rfl
@[simp] theorem State.driveF143_results : (s.driveF143 port x).results = s.results := by cases port <;> rfl

@[simp] theorem State.bindResult_cfg : (s.bindResult v).cfg = s.cfg := rfl
@[simp] theorem State.bindResult_dec143X : (s.bindResult v).dec143X = s.dec143X := rfl
@[simp] theorem State.bindResult_dec152X : (s.bindResult v).dec152X = s.dec152X := rfl
@[simp] theorem State.bindResult_add143A : (s.bindResult v).add143A = s.add143A := rfl
@[simp] theorem State.bindResult_add143B : (s.bindResult v).add143B = s.add143B := rfl
@[simp] theorem State.bindResult_script : (s.bindResult v).script = s.script := rfl
@[simp] theorem State.bindResult_results : (s.bindResult v).results = s.results ++ [v] := rfl

@[simp] theorem State.dropLine_cfg : s.dropLine.cfg = s.cfg := rfl
@[simp] theorem State.dropLine_dec143X : s.dropLine.dec143X = s.dec143X := rfl
@[simp] theorem State.dropLine_dec152X : s.dropLine.dec152X = s.dec152X := rfl
@[simp] theorem State.dropLine_add143A : s.dropLine.add143A = s.add143A := rfl
@[simp] theorem State.dropLine_add143B : s.dropLine.add143B = s.add143B := rfl
@[simp] theorem State.dropLine_script : s.dropLine.script = s.script.tail := rfl
@[simp] theorem State.dropLine_results : s.dropLine.results = s.results := rfl

end Sys2Proof.Machine
end

