-- ==== Sys2Proof/Laws/Exec.lean ====
section
/-! SUPPORT. What a transaction can do, said once: `exec` drives the ports of `Instr.driven`, binds `Instr.value`, and
answers nothing else. -/

namespace Sys2Proof.Machine

/-- The state once the operands stand on the unit's input ports. -/
def driven (i : Instr) (s : State) : State :=
  match i with
  | .f143FromByte port r => s.driveF143 port ⟨r⟩
  | .f143Zero => s
  | .f143NegZero => s
  | .f143Nan => s
  | .f143Sign x => s.driveDec143 x
  | .f143Exp x => s.driveDec143 x
  | .f143Mant x => s.driveDec143 x
  | .f143IsSubnormal x => s.driveDec143 x
  | .f143IsZero x => s.driveDec143 x
  | .f143IsNegZero x => s.driveDec143 x
  | .f143IsNan x => s.driveDec143 x
  | .f143Decode x => s.driveDec143 x
  | .f143Add a b => (s.driveAddA a).driveAddB b
  | .f152FromByte r => s.driveDec152 ⟨r⟩
  | .f152Sign x => s.driveDec152 x
  | .f152Exp x => s.driveDec152 x
  | .f152Mant x => s.driveDec152 x
  | .f152IsSubnormal x => s.driveDec152 x
  | .f152IsZero x => s.driveDec152 x
  | .f152IsNegZero x => s.driveDec152 x
  | .f152IsNan x => s.driveDec152 x
  | .f152Decode x => s.driveDec152 x

/-- The result of a transaction: a function of the operands and the build. -/
def valueOf (cfg : Config) : Instr → Value
  | .f143FromByte _ r => .f143 ⟨r⟩
  | .f143Zero => .f143 ⟨0x00#8⟩
  | .f143NegZero => .f143 ⟨0x80#8⟩
  | .f143Nan => .f143 (canonNan cfg)
  | .f143Sign x => .bit x.sign
  | .f143Exp x => .exp143 x.exp
  | .f143Mant x => .mant143 x.mant
  | .f143IsSubnormal x => .bit (wire x.isSubnormal)
  | .f143IsZero x => .bit (wire x.isZero)
  | .f143IsNegZero x => .bit (wire x.isNegZero)
  | .f143IsNan x => .bit (wire x.isNan)
  | .f143Decode x => .f32 (decodeF143 cfg x)
  | .f143Add a b => .f143 (addF143 cfg a b)
  | .f152FromByte r => .f152 ⟨r⟩
  | .f152Sign x => .bit x.sign
  | .f152Exp x => .exp152 x.exp
  | .f152Mant x => .mant152 x.mant
  | .f152IsSubnormal x => .bit (wire x.isSubnormal)
  | .f152IsZero x => .bit (wire x.isZero)
  | .f152IsNegZero x => .bit (wire x.isNegZero)
  | .f152IsNan x => .bit (wire x.isNan)
  | .f152Decode x => .f32 (decodeF152 cfg x)

theorem transactDec143_eq (x : F143) (out : Dec143Out → Value) (s : State) :
    transactDec143 x out s = .next ((s.driveDec143 x).bindResult (out (dec143 s.cfg x))) := rfl

theorem transactDec152_eq (x : F152) (out : Dec152Out → Value) (s : State) :
    transactDec152 x out s = .next ((s.driveDec152 x).bindResult (out (dec152 s.cfg x))) := rfl

theorem transactAdd143_eq (a b : F143) (s : State) :
    transactAdd143 a b s = .next (((s.driveAddA a).driveAddB b).bindResult (.f143 (addF143 s.cfg a b))) := rfl

theorem takeConstant_eq (c : F143) (s : State) : takeConstant c s = .next (s.bindResult (.f143 c)) := rfl

/-- The one equation of `exec`. -/
theorem exec_eq_next (i : Instr) (s : State) :
    exec i s = .next ((driven i s).bindResult (valueOf s.cfg i)) := by
  cases i <;> rfl

@[simp] theorem driven_cfg (i : Instr) (s : State) : (driven i s).cfg = s.cfg := by
  cases i <;> simp [driven]

@[simp] theorem driven_script (i : Instr) (s : State) : (driven i s).script = s.script := by
  cases i <;> simp [driven]

@[simp] theorem driven_results (i : Instr) (s : State) : (driven i s).results = s.results := by
  cases i <;> simp [driven]

/-- If a transaction answers a next state, it is this one. -/
theorem eq_of_exec {i : Instr} {s t : State} (h : exec i s = .next t) :
    t = (driven i s).bindResult (valueOf s.cfg i) := by
  rw [exec_eq_next] at h
  exact (Host.Outcome.next.inj h).symm

/-- A transaction yields its value and no other. -/
theorem yields_iff {i : Instr} {s : State} {v : Value} : yields i s v ↔ v = valueOf s.cfg i := by
  constructor
  · rintro ⟨t, h, hr⟩
    rw [eq_of_exec h] at hr
    simpa using hr.symm
  · rintro rfl
    exact ⟨_, exec_eq_next i s, by simp⟩

end Sys2Proof.Machine
end

