-- ==== Sys2Proof/Laws/Lines.lean ====
section
/-! SUPPORT. What a step can do, said once, and when a line gives a transaction. -/

namespace Sys2Proof.Machine

/-- A result has a byte in a format exactly when that is its format. -/
theorem byteAs_isSome_iff (fmt : Format) (v : Value) : (v.byteAs fmt).isSome = true ↔ v.format = some fmt := by
  cases v <;> cases fmt <;> simp [Value.byteAs, Value.format]

@[simp] theorem resolveOperand_lit (results : List Value) (fmt : Format) (b : Byte) :
    resolveOperand results fmt (.lit b) = .ok b := rfl

theorem resolveOperand_name {results : List Value} {fmt : Format} {k : Nat} {v : Value} {b : Byte}
    (hv : results[k]? = some v) (hb : v.byteAs fmt = some b) :
    resolveOperand results fmt (.name k) = .ok b := by
  simp [resolveOperand, hv, hb]

/-- A result has the byte `b` in a format exactly when it is that value of that format. -/
theorem byteAs_eq_some_iff {fmt : Format} {v : Value} {b : Byte} :
    v.byteAs fmt = some b ↔ v = Value.ofByte fmt b := by
  cases v <;> cases fmt <;> simp [Value.byteAs, Value.ofByte]
  · exact ⟨fun h => by subst h; rfl, fun h => by subst h; rfl⟩
  · exact ⟨fun h => by subst h; rfl, fun h => by subst h; rfl⟩

/-- An operand is read as a byte exactly when it stands for it. -/
theorem resolveOperand_eq_ok_iff {results : List Value} {fmt : Format} {o : Operand} {b : Byte} :
    resolveOperand results fmt o = .ok b ↔ standsFor results fmt o b := by
  cases o with
  | lit b' => simp [standsFor]
  | name k =>
    simp only [resolveOperand, standsFor]
    cases hv : results[k]? with
    | none => simp
    | some v => cases hb : v.byteAs fmt <;> simp [← byteAs_eq_some_iff, hb]

/-- The bytes of a line whose operands all stand for bytes. -/
theorem resolveArgs_eq_ok {results : List Value} {fmts : List Format} {os : List Operand} {bs : List Byte}
    (ho : os.length = fmts.length) (hb : bs.length = fmts.length)
    (h : ∀ (n : Nat) (fmt : Format) (o : Operand) (b : Byte),
      fmts[n]? = some fmt → os[n]? = some o → bs[n]? = some b → standsFor results fmt o b) :
    resolveArgs results fmts os = .ok bs := by
  induction fmts generalizing os bs with
  | nil => simp_all [resolveArgs]
  | cons fmt fmts ih =>
    obtain ⟨o, os, rfl⟩ := List.exists_cons_of_length_eq_add_one ho
    obtain ⟨b, bs, rfl⟩ := List.exists_cons_of_length_eq_add_one hb
    have h0 := resolveOperand_eq_ok_iff.mpr (h 0 fmt o b rfl rfl rfl)
    have ht := ih (by simpa using ho) (by simpa using hb) fun n f o b hf ho hb => h (n + 1) f o b hf ho hb
    simp [resolveArgs, h0, ht]

/-- A line is refused for its first operand that is refused. -/
theorem resolveArgs_eq_error {results : List Value} {fmts : List Format} {os : List Operand} {n : Nat} {fmt : Format}
    {o : Operand} {r : Refusal} (hf : fmts[n]? = some fmt) (ho : os[n]? = some o)
    (hr : resolveOperand results fmt o = .error r)
    (h : ∀ (m : Nat) (fmt : Format) (o : Operand), m < n → fmts[m]? = some fmt → os[m]? = some o →
      ∃ b, standsFor results fmt o b) :
    resolveArgs results fmts os = .error r := by
  induction fmts generalizing os n with
  | nil => simp at hf
  | cons f fmts ih =>
    cases os with
    | nil => simp at ho
    | cons o' os =>
      cases n with
      | zero =>
        simp only [List.getElem?_cons_zero, Option.some.injEq] at hf ho
        subst hf ho
        simp [resolveArgs, hr]
      | succ n =>
        obtain ⟨b, hb⟩ := h 0 f o' (Nat.succ_pos n) rfl rfl
        have ht := ih hf ho fun m f o hm => h (m + 1) f o (Nat.succ_lt_succ hm)
        simp [resolveArgs, resolveOperand_eq_ok_iff.mpr hb, ht]

/-- Bytes read from a line are as many as the ports. -/
theorem length_of_resolveArgs {results : List Value} {fmts : List Format} {os : List Operand} {bs : List Byte}
    (h : resolveArgs results fmts os = .ok bs) : bs.length = fmts.length := by
  induction fmts generalizing os bs with
  | nil => cases os <;> simp_all [resolveArgs]
  | cons fmt fmts ih =>
    cases os with
    | nil => simp [resolveArgs] at h
    | cons o os =>
      simp only [resolveArgs] at h
      split at h <;> try contradiction
      split at h <;> try contradiction
      rename_i bs' h'
      simp only [Except.ok.injEq] at h
      simp [← h, ih h']

/-- Every way a step can answer. -/
theorem step_cases (s : State) :
    (s.script = [] ∧ step s = .next s) ∨
    (∃ l rest r, s.script = l :: rest ∧ readLine s.results l = .error r ∧ step s = .refused r) ∨
    (∃ l rest i, s.script = l :: rest ∧ readLine s.results l = .ok i ∧ step s = exec i s.dropLine) := by
  unfold step
  cases hs : s.script with
  | nil => exact .inl ⟨rfl, rfl⟩
  | cons l rest =>
    cases hr : readLine s.results l with
    | error r => exact .inr (.inl ⟨l, rest, r, rfl, hr, by simp [hr]⟩)
    | ok i => exact .inr (.inr ⟨l, rest, i, rfl, hr, by simp [hr]⟩)

/-- If a step answers a next state, the script was at its end and nothing changed, or one transaction ran. -/
theorem step_next {s t : State} (h : step s = .next t) :
    (s.script = [] ∧ t = s) ∨
    (∃ l rest i, s.script = l :: rest ∧ readLine s.results l = .ok i ∧
      t = (driven i s.dropLine).bindResult (valueOf s.cfg i)) := by
  rcases step_cases s with ⟨hs, he⟩ | ⟨_, _, _, _, _, he⟩ | ⟨l, rest, i, hs, hr, he⟩
  · exact .inl ⟨hs, by rw [he] at h; exact (Host.Outcome.next.inj h).symm⟩
  · rw [he] at h; contradiction
  · exact .inr ⟨l, rest, i, hs, hr, eq_of_exec (he ▸ h)⟩

end Sys2Proof.Machine
end

