-- ==== Sys2Proof/Laws/PerInstr.lean ====
section
/-! SUPPORT. Facts about every instruction as syntax, one lemma per constructor. -/

/-- The line that encodes a transaction passes the check of a script's line, whatever names are bound (R41, R48). -/
def Sys2Proof.Laws.EncodedLine.Statement (i : Sys2Proof.Instr) : Prop :=
  ∀ known : List (Option Sys2Proof.Format), (Sys2Proof.encodeLine i).wellFormed known = true

namespace Sys2Proof.Laws.EncodedLine

theorem f143FromByte (port : F143Port) (r : Byte) : Statement (.f143FromByte port r) := fun _ => rfl
theorem f143Zero : Statement .f143Zero := fun _ => rfl
theorem f143NegZero : Statement .f143NegZero := fun _ => rfl
theorem f143Nan : Statement .f143Nan := fun _ => rfl
theorem f143Sign (x : F143) : Statement (.f143Sign x) := fun _ => rfl
theorem f143Exp (x : F143) : Statement (.f143Exp x) := fun _ => rfl
theorem f143Mant (x : F143) : Statement (.f143Mant x) := fun _ => rfl
theorem f143IsSubnormal (x : F143) : Statement (.f143IsSubnormal x) := fun _ => rfl
theorem f143IsZero (x : F143) : Statement (.f143IsZero x) := fun _ => rfl
theorem f143IsNegZero (x : F143) : Statement (.f143IsNegZero x) := fun _ => rfl
theorem f143IsNan (x : F143) : Statement (.f143IsNan x) := fun _ => rfl
theorem f143Decode (x : F143) : Statement (.f143Decode x) := fun _ => rfl
theorem f143Add (a b : F143) : Statement (.f143Add a b) := fun _ => rfl
theorem f152FromByte (r : Byte) : Statement (.f152FromByte r) := fun _ => rfl
theorem f152Sign (x : F152) : Statement (.f152Sign x) := fun _ => rfl
theorem f152Exp (x : F152) : Statement (.f152Exp x) := fun _ => rfl
theorem f152Mant (x : F152) : Statement (.f152Mant x) := fun _ => rfl
theorem f152IsSubnormal (x : F152) : Statement (.f152IsSubnormal x) := fun _ => rfl
theorem f152IsZero (x : F152) : Statement (.f152IsZero x) := fun _ => rfl
theorem f152IsNegZero (x : F152) : Statement (.f152IsNegZero x) := fun _ => rfl
theorem f152IsNan (x : F152) : Statement (.f152IsNan x) := fun _ => rfl
theorem f152Decode (x : F152) : Statement (.f152Decode x) := fun _ => rfl

end Sys2Proof.Laws.EncodedLine
end

