-- ==== Sys2Proof/Tests/Slice0.lean ====
section
/-! SUPPORT. The model's own tests, expected values from spec/ (95_test_vectors.md unless said otherwise), and for every
statement with hypotheses a witness: states and operands that meet them together. -/

open Sys2Proof Sys2Proof.Machine

namespace Sys2Proof.Tests

/-- The result a transaction binds, on its own. -/
def resultOf : Host.Outcome State Fault Refusal → Option Value
  | .next t => t.results.getLast?
  | .fault _ => none
  | .refused _ => none

/-- Why a step was refused. -/
def refusalOf : Host.Outcome State Fault Refusal → Option Refusal
  | .next _ => none
  | .fault _ => none
  | .refused r => some r

/-- The state after reset with a script given and some results bound. -/
def given (script : List Line) (results : List Value) : State :=
  { State.reset with script := script, results := results }

/-- The other build: `NAN_CANON` is 0xFF (R6). -/
def otherBuild : State :=
  { State.reset with cfg := ⟨⟨0xFF#8, .inr rfl⟩, Config.default.f32NanCanon⟩ }

/-! ### Each operation's operand byte, written out in bits (R36, R37), decodes to it -/

theorem test_decode_f143FromByte :
    decode (.f143FromByte .add143A) [0b11111110#8] = .ok (.f143FromByte .add143A 0xFE#8) := by decide
theorem test_decode_f143Zero : decode .f143Zero [] = .ok .f143Zero := by decide
theorem test_decode_f143NegZero : decode .f143NegZero [] = .ok .f143NegZero := by decide
theorem test_decode_f143Nan : decode .f143Nan [] = .ok .f143Nan := by decide
theorem test_decode_f143Sign : decode .f143Sign [0b11111110#8] = .ok (.f143Sign ⟨0xFE#8⟩) := by decide
theorem test_decode_f143Exp : decode .f143Exp [0b00111000#8] = .ok (.f143Exp ⟨0x38#8⟩) := by decide
theorem test_decode_f143Mant : decode .f143Mant [0b00000001#8] = .ok (.f143Mant ⟨0x01#8⟩) := by decide
theorem test_decode_f143IsSubnormal : decode .f143IsSubnormal [0b10000111#8] = .ok (.f143IsSubnormal ⟨0x87#8⟩) := by decide
theorem test_decode_f143IsZero : decode .f143IsZero [0b10000000#8] = .ok (.f143IsZero ⟨0x80#8⟩) := by decide
theorem test_decode_f143IsNegZero : decode .f143IsNegZero [0b10000001#8] = .ok (.f143IsNegZero ⟨0x81#8⟩) := by decide
theorem test_decode_f143IsNan : decode .f143IsNan [0b01111110#8] = .ok (.f143IsNan ⟨0x7E#8⟩) := by decide
theorem test_decode_f143Decode : decode .f143Decode [0b01000000#8] = .ok (.f143Decode ⟨0x40#8⟩) := by decide
theorem test_decode_f143Add :
    decode .f143Add [0b00111000#8, 0b10111000#8] = .ok (.f143Add ⟨0x38#8⟩ ⟨0xB8#8⟩) := by decide
theorem test_decode_f152FromByte : decode .f152FromByte [0b00111100#8] = .ok (.f152FromByte 0x3C#8) := by decide
theorem test_decode_f152Sign : decode .f152Sign [0b10111100#8] = .ok (.f152Sign ⟨0xBC#8⟩) := by decide
theorem test_decode_f152Exp : decode .f152Exp [0b01111100#8] = .ok (.f152Exp ⟨0x7C#8⟩) := by decide
theorem test_decode_f152Mant : decode .f152Mant [0b00111110#8] = .ok (.f152Mant ⟨0x3E#8⟩) := by decide
theorem test_decode_f152IsSubnormal : decode .f152IsSubnormal [0b10000011#8] = .ok (.f152IsSubnormal ⟨0x83#8⟩) := by decide
theorem test_decode_f152IsZero : decode .f152IsZero [0b00000000#8] = .ok (.f152IsZero ⟨0x00#8⟩) := by decide
theorem test_decode_f152IsNegZero : decode .f152IsNegZero [0b10000000#8] = .ok (.f152IsNegZero ⟨0x80#8⟩) := by decide
theorem test_decode_f152IsNan : decode .f152IsNan [0b01111101#8] = .ok (.f152IsNan ⟨0x7D#8⟩) := by decide
theorem test_decode_f152Decode : decode .f152Decode [0b00000011#8] = .ok (.f152Decode ⟨0x03#8⟩) := by decide
theorem test_tableWord_add : decodeTableWord 16 0xB838 = some (.f143Add ⟨0x38#8⟩ ⟨0xB8#8⟩) := by decide
theorem test_tableWord_other_length : decodeTableWord 24 0x38 = none := by decide

/-! ### The checks of WellFormed refuse ill-formed lines -/

theorem test_wf_too_few : Line.wellFormed [] ⟨.f143Add, [.lit 0x38#8]⟩ = false := by decide
theorem test_wf_too_many : Line.wellFormed [] ⟨.f143Zero, [.lit 0x38#8]⟩ = false := by decide
theorem test_wf_unbound : Line.wellFormed [] ⟨.f143Decode, [.name 0]⟩ = false := by decide
theorem test_wf_other_format : Line.wellFormed [some .f152] ⟨.f143Add, [.lit 0x38#8, .name 0]⟩ = false := by decide
theorem test_wf_no_byte : Line.wellFormed [none] ⟨.f143Decode, [.name 0]⟩ = false := by decide
theorem test_wf_later_name :
    scriptWellFormed [] [⟨.f143Decode, [.name 1]⟩, ⟨.f143Zero, []⟩] = false := by decide
/-- The first lines of program P2. -/
theorem test_wf_accepts : scriptWellFormed [] [⟨.f143Zero, []⟩, ⟨.f143Add, [.name 0, .lit 0x38#8]⟩,
    ⟨.f143Decode, [.name 1]⟩] = true := by decide

/-! ### Results -/

theorem test_f143FromByte_keeps_nan : resultOf (exec (.f143FromByte .add143B 0xFF#8) State.reset) = some (.f143 ⟨0xFF#8⟩) := by decide
theorem test_f143Zero : resultOf (exec .f143Zero State.reset) = some (.f143 ⟨0x00#8⟩) := by decide
theorem test_f143NegZero : resultOf (exec .f143NegZero State.reset) = some (.f143 ⟨0x80#8⟩) := by decide
theorem test_f143Nan : resultOf (exec .f143Nan State.reset) = some (.f143 ⟨0x7F#8⟩) := by decide
theorem test_f143Nan_other_build : resultOf (exec .f143Nan otherBuild) = some (.f143 ⟨0xFF#8⟩) := by decide
theorem test_f143Sign : resultOf (exec (.f143Sign ⟨0xFE#8⟩) State.reset) = some (.bit 1#1) := by decide
theorem test_f143Exp : resultOf (exec (.f143Exp ⟨0xA5#8⟩) State.reset) = some (.exp143 4#4) := by decide
theorem test_f143Exp_no_sign : resultOf (exec (.f143Exp ⟨0xFF#8⟩) State.reset) = some (.exp143 15#4) := by decide
theorem test_f143Mant : resultOf (exec (.f143Mant ⟨0xFE#8⟩) State.reset) = some (.mant143 6#3) := by decide
theorem test_f143IsSubnormal : resultOf (exec (.f143IsSubnormal ⟨0x87#8⟩) State.reset) = some (.bit 1#1) := by decide
theorem test_f143IsSubnormal_zero : resultOf (exec (.f143IsSubnormal ⟨0x00#8⟩) State.reset) = some (.bit 0#1) := by decide
theorem test_f143IsZero : resultOf (exec (.f143IsZero ⟨0x80#8⟩) State.reset) = some (.bit 0#1) := by decide
theorem test_f143IsNegZero : resultOf (exec (.f143IsNegZero ⟨0x80#8⟩) State.reset) = some (.bit 1#1) := by decide
theorem test_f143IsNan : resultOf (exec (.f143IsNan ⟨0x7E#8⟩) State.reset) = some (.bit 0#1) := by decide
theorem test_f143Decode_subnormal : resultOf (exec (.f143Decode ⟨0x87#8⟩) State.reset) = some (.f32 0xBC600000#32) := by decide
theorem test_f143Decode_nan : resultOf (exec (.f143Decode ⟨0xFF#8⟩) State.reset) = some (.f32 0x7FC00000#32) := by decide
/-- V15b: a sticky bit is needed. -/
theorem test_f143Add_sticky : resultOf (exec (.f143Add ⟨0x20#8⟩ ⟨0x05#8⟩) State.reset) = some (.f143 ⟨0x21#8⟩) := by decide
/-- V19: overflow gives the canonical byte, not the sum's sign. -/
theorem test_f143Add_overflow : resultOf (exec (.f143Add ⟨0xFE#8⟩ ⟨0xD9#8⟩) State.reset) = some (.f143 ⟨0x7F#8⟩) := by decide
theorem test_f152FromByte : resultOf (exec (.f152FromByte 0x3C#8) State.reset) = some (.f152 ⟨0x3C#8⟩) := by decide
theorem test_f152Sign : resultOf (exec (.f152Sign ⟨0xBC#8⟩) State.reset) = some (.bit 1#1) := by decide
theorem test_f152Exp : resultOf (exec (.f152Exp ⟨0xA5#8⟩) State.reset) = some (.exp152 9#5) := by decide
theorem test_f152Mant : resultOf (exec (.f152Mant ⟨0x3E#8⟩) State.reset) = some (.mant152 2#2) := by decide
theorem test_f152IsSubnormal : resultOf (exec (.f152IsSubnormal ⟨0x04#8⟩) State.reset) = some (.bit 0#1) := by decide
theorem test_f152IsZero : resultOf (exec (.f152IsZero ⟨0x80#8⟩) State.reset) = some (.bit 0#1) := by decide
theorem test_f152IsNegZero : resultOf (exec (.f152IsNegZero ⟨0x00#8⟩) State.reset) = some (.bit 0#1) := by decide
theorem test_f152IsNan : resultOf (exec (.f152IsNan ⟨0x7D#8⟩) State.reset) = some (.bit 0#1) := by decide
theorem test_f152Decode_subnormal : resultOf (exec (.f152Decode ⟨0x03#8⟩) State.reset) = some (.f32 0x38400000#32) := by decide
theorem test_f152Decode_exp31 : resultOf (exec (.f152Decode ⟨0x7C#8⟩) State.reset) = some (.f32 0x47800000#32) := by decide
/-- R73's example, fetched as a table word; that `a` is its low byte is the model's choice (log 7). -/
theorem test_step_tableWord : resultOf (step (State.reset.withFetchWord 16 0x3038)) = some (.f143 ⟨0x3C#8⟩) := by decide
/-- Line 4 of program P2: a named operand. -/
theorem test_step_named : resultOf (step (given [⟨.f143Add, [.name 0, .lit 0x30#8]⟩] [.f143 ⟨0x40#8⟩])) = some (.f143 ⟨0x42#8⟩) := by
  decide
theorem test_step_format : refusalOf (step (given [⟨.f143Decode, [.name 0]⟩] [.f152 ⟨0x40#8⟩])) = some (.formatMismatch 0) := by
  decide

/-! ### Witnesses: the hypotheses of each statement can be met -/

/-- 0x38 is 1, and 0xB8 is -1 (S4 and its negative). -/
theorem val_one : val143 ⟨0x38#8⟩ = some 1 := by decide +kernel
theorem val_neg_one : val143 ⟨0xB8#8⟩ = some (-1) := by decide +kernel
theorem val_zero : val143 ⟨0x00#8⟩ = some 0 := by decide +kernel
theorem val_two : val143 ⟨0x40#8⟩ = some 2 := by decide +kernel
theorem val_max : val143 ⟨0x7E#8⟩ = some 448 := by decide +kernel
theorem val_16 : val143 ⟨0x58#8⟩ = some 16 := by decide +kernel

theorem yields_add (a b r : Byte) (h : addF143 Config.default ⟨a⟩ ⟨b⟩ = ⟨r⟩) :
    yields (.f143Add ⟨a⟩ ⟨b⟩) State.reset (.f143 ⟨r⟩) :=
  yields_iff.mpr (congrArg Value.f143 h.symm)

theorem witness_DecodeOfEncodeIsTheInstruction : decode .f143Add [0x38#8, 0x30#8] = .ok (.f143Add ⟨0x38#8⟩ ⟨0x30#8⟩) := by decide
theorem witness_DecodeRejectsExactlyWrongOperandCounts :
    [0x38#8].length = Op.f143Sign.inputs.length ∧ [0x38#8].length < Op.f143Add.inputs.length ∧
    Op.f143Zero.inputs.length < [0x38#8].length := by decide
theorem witness_TableWordsRunTheirInstruction :
    decodeTableWord 16 0x3038 = some (.f143Add ⟨0x38#8⟩ ⟨0x30#8⟩) ∧
    decodeTableWord 8 0x38 = some (.f143FromByte .dec143X 0x38#8) ∧ decodeTableWord 8 0xFF = some .f143Nan := by decide
theorem witness_StepRunsTheDecodedLine :
    decode .f143Sign [0x38#8] = .ok (.f143Sign ⟨0x38#8⟩) ∧
    (given [⟨.f143Sign, [0x38#8].map .lit⟩] []).script = ⟨.f143Sign, [0x38#8].map .lit⟩ :: [] := by decide
/-- Line 4 of program P2: a name, then a literal. -/
theorem witness_StepPassesNamedResults :
    let s := given [⟨.f143Add, [.name 0, .lit 0x30#8]⟩] [.f143 ⟨0x40#8⟩]
    [Operand.name 0, .lit 0x30#8].length = Op.f143Add.inputs.length ∧
    (∀ (n : Nat) (fmt : Format) (o : Operand) (b : Byte), Op.f143Add.inputs[n]? = some fmt →
      [Operand.name 0, .lit 0x30#8][n]? = some o → [0x40#8, 0x30#8][n]? = some b → standsFor s.results fmt o b) ∧
    decode .f143Add [0x40#8, 0x30#8] = .ok (.f143Add ⟨0x40#8⟩ ⟨0x30#8⟩) ∧
    s.script = [⟨.f143Add, [.name 0, .lit 0x30#8]⟩] := by
  refine ⟨by decide, ?_, by decide, by decide⟩
  rintro (_ | _ | n) fmt o b hf ho hb <;> simp [Op.inputs] at hf ho hb
  · subst hf ho hb; rfl
  · subst hf ho hb; rfl
theorem witness_StepAfterTheLastLineChangesNothing : State.reset.script = [] := by decide
theorem witness_StepRunsExactlyWellFormedLines :
    (let s := given [⟨.f143Exp, [.name 0]⟩] [.f143 ⟨0x38#8⟩];
      s.script = [⟨.f143Exp, [.name 0]⟩] ∧ Line.wellFormed s.known ⟨.f143Exp, [.name 0]⟩ = true) ∧
    (let s := given [⟨.f143Exp, [.name 1]⟩] [.f143 ⟨0x38#8⟩];
      s.script = [⟨.f143Exp, [.name 1]⟩] ∧ Line.wellFormed s.known ⟨.f143Exp, [.name 1]⟩ = false) := by decide
/-- At the adder's second port, behind a literal, an unbound name and a result that is no byte; at its first, where no
operand comes before, a result of the other format. -/
theorem witness_MisusedNamesAreRefused :
    (let l : Line := ⟨.f143Add, [.lit 0x38#8, .name 1]⟩
      let s := given [l] [.bit 1#1]
      l.op.inputs[1]? = some .f143 ∧ l.args[1]? = some (.name 1) ∧ s.results[1]? = none ∧
      operandsStandBefore 1 s.results l ∧ s.script = [l]) ∧
    (let l : Line := ⟨.f143Add, [.lit 0x38#8, .name 0]⟩
      let s := given [l] [.bit 1#1]
      l.op.inputs[1]? = some .f143 ∧ l.args[1]? = some (.name 0) ∧ s.results[0]? = some (.bit 1#1) ∧
      (Value.bit 1#1).format ≠ some .f143 ∧ operandsStandBefore 1 s.results l ∧ s.script = [l]) ∧
    (let l : Line := ⟨.f143Add, [.name 0, .lit 0x38#8]⟩
      let s := given [l] [.f152 ⟨0x38#8⟩]
      l.op.inputs[0]? = some .f143 ∧ l.args[0]? = some (.name 0) ∧ s.results[0]? = some (.f152 ⟨0x38#8⟩) ∧
      (Value.f152 ⟨0x38#8⟩).format ≠ some .f143 ∧ operandsStandBefore 0 s.results l ∧ s.script = [l]) := by
  have lit_before : ∀ (results : List Value) (o : Operand),
      operandsStandBefore 1 results ⟨.f143Add, [.lit 0x38#8, o]⟩ := by
    intro results o m fmt o' hm _ ho
    obtain rfl : m = 0 := by omega
    obtain rfl : Operand.lit 0x38#8 = o' := by simpa using ho
    exact ⟨_, rfl⟩
  exact ⟨⟨rfl, rfl, rfl, lit_before _ _, rfl⟩, ⟨rfl, rfl, rfl, by decide, lit_before _ _, rfl⟩,
    ⟨rfl, rfl, rfl, by decide, fun _ _ _ hm => absurd hm (Nat.not_lt_zero _), rfl⟩⟩

/-- Lines 1, 2 and 9 of program P2. -/
def sample : State := given [⟨.f143Zero, []⟩, ⟨.f143Add, [.name 0, .lit 0x38#8]⟩, ⟨.f143Decode, [.name 1]⟩] []

theorem witness_RunnableStatesStepToRunnableStates : sample.runnable := (by decide : scriptWellFormed _ _ = true)
theorem witness_RunnableScriptsRunToTheirEnd : sample.runnable ∧ sample.script.length = 3 :=
  ⟨witness_RunnableStatesStepToRunnableStates, by decide⟩
theorem witness_BuildParametersNeverChange :
    ∃ t, step sample = .next t ∧ t.results.length = 1 := ⟨_, rfl, by decide⟩
theorem witness_BoundResultsNeverChange :
    ∃ t, step (given [⟨.f143Zero, []⟩] [.bit 1#1]) = .next t ∧
      (given [⟨.f143Zero, []⟩] [.bit 1#1]).results[0]? = some (.bit 1#1) := ⟨_, rfl, by decide⟩
theorem witness_ResultDependsOnlyOnOperandsAndBuild :
    (State.reset.cfg = sample.cfg ∧ yields .f143Zero State.reset (.f143 ⟨0x00#8⟩)) ∧
    (∃ t, exec (.f152FromByte 0x3C#8) State.reset = .next t ∧ t.dec143X = State.reset.dec143X ∧
      t.add143A = State.reset.add143A ∧ t.add143B = State.reset.add143B) ∧
    (∃ t, exec (.f143Sign ⟨0x3C#8⟩) State.reset = .next t ∧ t.dec152X = State.reset.dec152X) :=
  ⟨⟨rfl, yields_iff.mpr rfl⟩, ⟨_, rfl, rfl, rfl, rfl⟩, ⟨_, rfl, rfl⟩⟩
theorem witness_TransactionsDoNotInteract :
    ∃ t1 t2 u1 u2, exec .f143Zero State.reset = .next t1 ∧ exec (.f143Sign ⟨0xFE#8⟩) t1 = .next t2 ∧
      exec (.f143Sign ⟨0xFE#8⟩) State.reset = .next u1 ∧ exec .f143Zero u1 = .next u2 :=
  ⟨_, _, _, _, rfl, rfl, rfl, rfl⟩
theorem witness_FrameOfEveryOperation :
    (∃ t, exec (.f152Sign ⟨0x3C#8⟩) State.reset = .next t) ∧
    (∀ r, Instr.f152Sign ⟨0x3C#8⟩ ≠ .f143FromByte .dec143X r) ∧
    (∀ x, Instr.f152Sign ⟨0x3C#8⟩ ∉ [.f143Sign x, .f143Exp x, .f143Mant x, .f143IsSubnormal x, .f143IsZero x,
      .f143IsNegZero x, .f143IsNan x, .f143Decode x]) ∧
    (∃ t, exec (.f143FromByte .add143A 0x38#8) State.reset = .next t) ∧
    (∀ r, Instr.f143FromByte .add143A 0x38#8 ≠ .f152FromByte r) ∧
    (∀ x, Instr.f143FromByte .add143A 0x38#8 ∉ [.f152Sign x, .f152Exp x, .f152Mant x, .f152IsSubnormal x, .f152IsZero x,
      .f152IsNegZero x, .f152IsNan x, .f152Decode x]) ∧
    (∀ r, Instr.f143FromByte .add143A 0x38#8 ≠ .f143FromByte .add143B r) ∧
    (∀ a b, Instr.f143FromByte .add143A 0x38#8 ≠ .f143Add a b) ∧
    (∀ r, Instr.f143FromByte .add143B 0x38#8 ≠ .f143FromByte .add143A r) :=
  ⟨⟨_, rfl⟩, by simp, by simp, ⟨_, rfl⟩, by simp, by simp, by simp, by simp, by simp⟩
theorem witness_DrivenPortsShowEveryOutput :
    (∃ t, exec (.f143FromByte .dec143X 0x38#8) State.reset = .next t) ∧
    (∃ t, exec (.f152FromByte 0x38#8) State.reset = .next t) ∧
    (∃ t1 t2, exec (.f143FromByte .add143B 0x30#8) State.reset = .next t1 ∧
      exec (.f143FromByte .add143A 0x38#8) t1 = .next t2) :=
  ⟨⟨_, rfl⟩, ⟨_, rfl⟩, ⟨_, _, rfl, rfl⟩⟩

/-- A byte for each branch of R66: NaN, zero, the largest subnormal (`k` is 2), the smallest and the largest normal. -/
theorem witness_F143DecodeResult :
    (0xFF / 8 % 16 = 15 ∧ 0xFF % 8 = 7) ∧ (0x80 / 8 % 16 = 0 ∧ 0x80 % 8 = 0) ∧
    (0x87 / 8 % 16 = 0 ∧ 2 ^ 2 ≤ 0x87 % 8 ∧ 0x87 % 8 < 2 ^ (2 + 1)) ∧
    (0x08 / 8 % 16 ≠ 0 ∧ ¬(0x08 / 8 % 16 = 15 ∧ 0x08 % 8 = 7)) ∧
    (0x7E / 8 % 16 ≠ 0 ∧ ¬(0x7E / 8 % 16 = 15 ∧ 0x7E % 8 = 7)) := by decide
/-- A byte for each branch of R102. -/
theorem witness_F152DecodeResult :
    (0xFF / 4 % 32 = 31 ∧ 0xFF % 4 = 3) ∧ (0x80 / 4 % 32 = 0 ∧ 0x80 % 4 = 0) ∧
    (0x83 / 4 % 32 = 0 ∧ 2 ^ 1 ≤ 0x83 % 4 ∧ 0x83 % 4 < 2 ^ (1 + 1)) ∧
    (0x04 / 4 % 32 ≠ 0 ∧ ¬(0x04 / 4 % 32 = 31 ∧ 0x04 % 4 = 3)) ∧
    (0x7E / 4 % 32 ≠ 0 ∧ ¬(0x7E / 4 % 32 = 31 ∧ 0x7E % 4 = 3)) := by decide
theorem witness_F143ClassificationResults : 0x78 / 8 % 16 = 15 ∧ 0x78 % 8 ≠ 7 ∧ 0xFE / 8 % 16 = 15 ∧ 0xFE % 8 ≠ 7 := by decide
theorem witness_F143DecodeIsExact : val143 ⟨0x7E#8⟩ = some 448 ∧ (448 : ℚ) ≠ 0 := ⟨val_max, by norm_num⟩
theorem witness_F143DecodeLaws :
    (F143.isNan ⟨0x00#8⟩ = false ∧ yields (.f143Decode ⟨0x00#8⟩) State.reset (.f32 0x00000000#32) ∧
      yields (.f143Decode ⟨0x80#8⟩) State.reset (.f32 0x80000000#32)) ∧
    (F143.sign ⟨0x00#8⟩ = 0#1 ∧ F143.sign ⟨0x38#8⟩ = 0#1 ∧ val143 ⟨0x00#8⟩ = some 0 ∧ val143 ⟨0x38#8⟩ = some 1) ∧
    (F143.isNormal ⟨0x38#8⟩ = true ∧ F143.isNormal ⟨0x40#8⟩ = true ∧ F143.sign ⟨0x38#8⟩ = F143.sign ⟨0x40#8⟩ ∧
      F143.mant ⟨0x38#8⟩ = F143.mant ⟨0x40#8⟩ ∧ F143.exp ⟨0x38#8⟩ < F143.exp ⟨0x40#8⟩ ∧ val143 ⟨0x40#8⟩ = some 2) :=
  ⟨⟨by decide, yields_iff.mpr (by decide), yields_iff.mpr (by decide)⟩, ⟨by decide, by decide, val_zero, val_one⟩,
    ⟨by decide, by decide, by decide, by decide, by decide, val_two⟩⟩
theorem witness_NanIsTestedFirstInDecode :
    (F143.exp ⟨0xFF#8⟩ = 15#4 ∧ F143.mant ⟨0xFF#8⟩ = 7#3) ∧ (F152.exp ⟨0xFF#8⟩ = 31#5 ∧ F152.mant ⟨0xFF#8⟩ = 3#2) ∧
    yields (.f143Decode ⟨0x38#8⟩) State.reset (.f32 0x3F800000#32) ∧
    yields (.f152Decode ⟨0x3C#8⟩) State.reset (.f32 0x3F800000#32) :=
  ⟨by decide, by decide, yields_iff.mpr (by decide), yields_iff.mpr (by decide)⟩
theorem witness_F152DecodeIsExactAndOrdered :
    (val152 ⟨0x00#8⟩ = some 0 ∧ val152 ⟨0x3C#8⟩ = some 1 ∧ F152.sign ⟨0x00#8⟩ = 0#1 ∧ F152.sign ⟨0x3C#8⟩ = 0#1 ∧
      F152.exp ⟨0x3C#8⟩ = 15#5) ∧
    (F152.isNan ⟨0x3C#8⟩ = false ∧ yields (.f152Decode ⟨0x3C#8⟩) State.reset (.f32 0x3F800000#32)) :=
  ⟨⟨by decide +kernel, by decide +kernel, by decide, by decide, by decide⟩, by decide, yields_iff.mpr (by decide)⟩

/-- A pair for each clause of the algorithm: NaN; an exact zero; a sum of 7 units (`p` is 2) and one of 8 (`p` is 3); the
largest sum, of 458752 units (`p` is 18). -/
theorem witness_F143AddResult :
    (F143.isNan ⟨0xFF#8⟩ = true) ∧ (gridInt ⟨0x80#8⟩ + gridInt ⟨0x80#8⟩ = 0) ∧
    (gridInt ⟨0x04#8⟩ + gridInt ⟨0x03#8⟩ = 7 ∧ 2 ^ 2 ≤ 7 ∧ 7 < 2 ^ (2 + 1)) ∧
    (gridInt ⟨0x07#8⟩ + gridInt ⟨0x01#8⟩ = 8 ∧ 2 ^ 3 ≤ 8 ∧ 8 < 2 ^ (3 + 1)) ∧
    (gridInt ⟨0x7E#8⟩ + gridInt ⟨0x7E#8⟩ = 458752 ∧ 2 ^ 18 ≤ 458752 ∧ 458752 < 2 ^ (18 + 1)) := by decide
/-- A sum of zero, the tie at 464, and a sum past it. -/
theorem witness_F143AddIsTheExactSumRoundedOnce :
    (val143 ⟨0x38#8⟩ = some 1 ∧ val143 ⟨0xB8#8⟩ = some (-1) ∧ (1 : ℚ) + -1 = 0) ∧
    (val143 ⟨0x7E#8⟩ = some 448 ∧ val143 ⟨0x58#8⟩ = some 16 ∧ (448 : ℚ) + 16 ≠ 0 ∧ |(448 : ℚ) + 16| = 464) ∧
    (464 < |(448 : ℚ) + 448|) := by
  refine ⟨⟨val_one, val_neg_one, by norm_num⟩, ⟨val_max, val_16, by norm_num, by norm_num⟩, by norm_num⟩
theorem witness_NanSumsAreTheCanonicalNan :
    F143.isNan ⟨0xFF#8⟩ = true ∧ yields (.f143Add ⟨0x7E#8⟩ ⟨0x7E#8⟩) State.reset (.f143 ⟨0x7F#8⟩) ∧
    F143.isNan ⟨0x7F#8⟩ = true := ⟨by decide, yields_add _ _ _ (by decide), by decide⟩
theorem witness_SumsOverflowExactlyPast464 : val143 ⟨0x7E#8⟩ = some 448 ∧ 464 < |(448 : ℚ) + 448| := ⟨val_max, by norm_num⟩
theorem witness_ZeroSumsAreExactZeros : val143 ⟨0x38#8⟩ = some 1 ∧ val143 ⟨0xB8#8⟩ = some (-1) ∧ (1 : ℚ) + -1 = 0 :=
  ⟨val_one, val_neg_one, by norm_num⟩
theorem witness_AddingZeroGivesTheOtherOperand :
    F143.isNan ⟨0x7E#8⟩ = false ∧ (F143.mk 0x7E#8).byte ≠ 0x80#8 := by decide
theorem witness_NegatingBothOperandsNegatesTheSum :
    (val143 ⟨0x38#8⟩ = some 1 ∧ (1 : ℚ) + 1 ≠ 0 ∧ yields (.f143Add ⟨0x38#8⟩ ⟨0x38#8⟩) State.reset (.f143 ⟨0x40#8⟩)) ∧
    (val143 ⟨0xB8#8⟩ = some (-1) ∧ (1 : ℚ) + -1 = 0 ∧ ¬(F143.mk 0x38#8 = ⟨0xB8#8⟩)) :=
  ⟨⟨val_one, by norm_num, yields_add _ _ _ (by decide)⟩, val_neg_one, by norm_num, by decide⟩
/-- The boundary values 224 and 240, and a subnormal. -/
theorem witness_DoublingIsExactUpTo224 :
    (val143 ⟨0x76#8⟩ = some 224 ∧ |(224 : ℚ)| ≤ 224 ∧ F143.isNormal ⟨0x76#8⟩ = true) ∧
    (val143 ⟨0x77#8⟩ = some 240 ∧ (240 : ℚ) ≤ |240|) ∧
    (val143 ⟨0x01#8⟩ = some (1 / 512) ∧ F143.isSubnormal ⟨0x01#8⟩ = true) :=
  ⟨⟨by decide +kernel, by norm_num, by decide⟩, ⟨by decide +kernel, by norm_num⟩, by decide +kernel, by decide⟩
theorem witness_AdditionIsMonotone :
    F143.isNan ⟨0x38#8⟩ = false ∧ val143 ⟨0x00#8⟩ = some 0 ∧ val143 ⟨0x38#8⟩ = some 1 ∧ (0 : ℚ) ≤ 1 ∧
    yields (.f143Add ⟨0x38#8⟩ ⟨0x00#8⟩) State.reset (.f143 ⟨0x38#8⟩) ∧
    yields (.f143Add ⟨0x38#8⟩ ⟨0x38#8⟩) State.reset (.f143 ⟨0x40#8⟩) ∧ val143 ⟨0x40#8⟩ = some 2 :=
  ⟨by decide, val_zero, val_one, by norm_num, yields_add _ _ _ (by decide), yields_add _ _ _ (by decide), val_two⟩
theorem witness_GridArithmeticIsExact : val143 ⟨0x7E#8⟩ = some 448 ∧ gridMag ⟨0x7E#8⟩ = 229376 := ⟨val_max, by decide⟩
theorem witness_SumsInTheSubnormalRangeAreExact :
    val143 ⟨0x09#8⟩ = some (9 / 512) ∧ val143 ⟨0x88#8⟩ = some (-8 / 512) ∧
    yields (.f143Add ⟨0x09#8⟩ ⟨0x88#8⟩) State.reset (.f143 ⟨0x01#8⟩) ∧ (F143.exp ⟨0x01#8⟩).toNat ≤ 1 :=
  ⟨by decide +kernel, by decide +kernel, yields_add _ _ _ (by decide), by decide⟩

end Sys2Proof.Tests
end

section
/-! The fields of a byte, by mask and offset and by arithmetic (R36 to R38). -/

namespace Sys2Proof

/-- A field whose mask is `width` ones from bit `offset` up is the slice of the byte there (R38). -/
theorem FieldConst.get_eq_extractLsb' {f : FieldConst} (hmask : f.mask.toNat = (2 ^ f.width - 1) <<< f.offset)
    (x : Byte) : f.get x = (x.extractLsb' f.offset f.width).toNat :=
  calc f.get x = (x.toNat >>> f.offset) &&& (f.mask.toNat >>> f.offset) := by
        simp [FieldConst.get, Nat.shiftRight_and_distrib]
    _ = (x.toNat >>> f.offset) &&& (2 ^ f.width - 1) := by rw [hmask, Nat.shiftLeft_shiftRight]
    _ = (x.extractLsb' f.offset f.width).toNat := by
        rw [Nat.and_two_pow_sub_one_eq_mod, BitVec.extractLsb'_toNat]

/-! ### The fields of the byte read as an unsigned number (R36, R37) -/

theorem F143.sign_toNat (x : F143) : x.sign.toNat = x.byte.toNat / 128 := by
  rw [F143.sign, BitVec.extractLsb'_toNat, Nat.shiftRight_eq_div_pow]
  omega

theorem F143.exp_toNat (x : F143) : x.exp.toNat = x.byte.toNat / 8 % 16 := by
  rw [F143.exp, BitVec.extractLsb'_toNat, Nat.shiftRight_eq_div_pow]

theorem F143.mant_toNat (x : F143) : x.mant.toNat = x.byte.toNat % 8 := by
  rw [F143.mant, BitVec.extractLsb'_toNat, Nat.shiftRight_zero]

theorem F152.sign_toNat (x : F152) : x.sign.toNat = x.byte.toNat / 128 := by
  rw [F152.sign, BitVec.extractLsb'_toNat, Nat.shiftRight_eq_div_pow]
  omega

theorem F152.exp_toNat (x : F152) : x.exp.toNat = x.byte.toNat / 4 % 32 := by
  rw [F152.exp, BitVec.extractLsb'_toNat, Nat.shiftRight_eq_div_pow]

theorem F152.mant_toNat (x : F152) : x.mant.toNat = x.byte.toNat % 4 := by
  rw [F152.mant, BitVec.extractLsb'_toNat, Nat.shiftRight_zero]

theorem F143.byte_toNat_eq_fields (x : F143) :
    x.byte.toNat = x.sign.toNat * 2 ^ 7 + x.exp.toNat * 2 ^ 3 + x.mant.toNat := by
  rw [x.sign_toNat, x.exp_toNat, x.mant_toNat]
  omega

theorem F152.byte_toNat_eq_fields (x : F152) :
    x.byte.toNat = x.sign.toNat * 2 ^ 7 + x.exp.toNat * 2 ^ 2 + x.mant.toNat := by
  rw [x.sign_toNat, x.exp_toNat, x.mant_toNat]
  omega

/-- Settles O4: every mask of the table is a run of ones, so a masked and shifted field is the slice of the byte. -/
theorem maskAndOffsetGiveTheFields : Obligations.MaskAndOffsetGiveTheFields := by
  refine ⟨fun x => ⟨?_, ?_, ?_, x.byte_toNat_eq_fields⟩, fun x => ⟨?_, ?_, ?_, x.byte_toNat_eq_fields⟩,
    rfl, rfl, rfl, rfl, rfl, rfl, rfl, rfl⟩
  · exact FieldConst.get_eq_extractLsb' (f := Config.f143SignField) rfl x.byte
  · exact FieldConst.get_eq_extractLsb' (f := Config.f143ExpField) rfl x.byte
  · exact FieldConst.get_eq_extractLsb' (f := Config.f143MantField) rfl x.byte
  · exact FieldConst.get_eq_extractLsb' (f := Config.f152SignField) rfl x.byte
  · exact FieldConst.get_eq_extractLsb' (f := Config.f152ExpField) rfl x.byte
  · exact FieldConst.get_eq_extractLsb' (f := Config.f152MantField) rfl x.byte

end Sys2Proof
end

section
/-! The width and format of what a transaction yields (R48, R50). -/

namespace Sys2Proof.Machine

@[simp] theorem valueOf_width (cfg : Config) (i : Instr) : (valueOf cfg i).width = i.op.resultWidth := by
  cases i <;> rfl

@[simp] theorem valueOf_format (cfg : Config) (i : Instr) : (valueOf cfg i).format = i.op.resultFormat := by
  cases i <;> rfl

/-- Settles O16: `exec` answers in every state, binding `valueOf`, which has the width and format of the operation. -/
theorem everyOperationGivesAResultOfItsWidth : Obligations.EveryOperationGivesAResultOfItsWidth :=
  fun i s => ⟨valueOf s.cfg i, yields_iff.mpr rfl, valueOf_width s.cfg i, valueOf_format s.cfg i⟩

end Sys2Proof.Machine
end

section
/-! The fields of a packed binary32 pattern (R43), and what flipping its sign bit does. -/

namespace Sys2Proof.Machine

@[simp] theorem f32Sign_f32Pack (s : BitVec 1) (X F : Nat) : f32Sign (f32Pack s X F) = s :=
  calc f32Sign (f32Pack s X F) = (s ++ BitVec.ofNat 8 X).extractLsb' 8 1 :=
        BitVec.extractLsb'_append_eq_of_le (by decide)
    _ = s := BitVec.extractLsb'_append_eq_left

@[simp] theorem f32Exp_f32Pack (s : BitVec 1) (X F : Nat) : f32Exp (f32Pack s X F) = BitVec.ofNat 8 X :=
  calc f32Exp (f32Pack s X F) = (s ++ BitVec.ofNat 8 X).extractLsb' 0 8 :=
        BitVec.extractLsb'_append_eq_of_le (by decide)
    _ = BitVec.ofNat 8 X := BitVec.extractLsb'_append_eq_right

@[simp] theorem f32Frac_f32Pack (s : BitVec 1) (X F : Nat) : f32Frac (f32Pack s X F) = BitVec.ofNat 23 F :=
  BitVec.extractLsb'_append_eq_right

theorem f32IsNan_iff (y : F32) : f32IsNan y = true ↔ f32Exp y = 0xFF#8 ∧ f32Frac y ≠ 0#23 := by
  simp [f32IsNan, f32Exp, f32Frac]

theorem f32Pack_flip_sign (s : BitVec 1) (X F : Nat) :
    f32Pack (s ^^^ 1#1) X F = f32Pack s X F ^^^ 0x80000000#32 := by
  have hmask : 0x80000000#32 = 1#1 ++ 0#8 ++ 0#23 := rfl
  rw [hmask, f32Pack, f32Pack, BitVec.xor_append, BitVec.xor_append, BitVec.xor_zero, BitVec.xor_zero]

/-- Fields that fit their width can be read back from the pattern. -/
theorem f32Pack_injective {s s' : BitVec 1} {X X' F F' : Nat} (hX : X < 2 ^ 8) (hX' : X' < 2 ^ 8) (hF : F < 2 ^ 23)
    (hF' : F' < 2 ^ 23) (h : f32Pack s X F = f32Pack s' X' F') : s = s' ∧ X = X' ∧ F = F' := by
  have hs := congrArg f32Sign h
  have he := congrArg (fun y => (f32Exp y).toNat) h
  have hf := congrArg (fun y => (f32Frac y).toNat) h
  simp only [f32Sign_f32Pack, f32Exp_f32Pack, f32Frac_f32Pack, BitVec.toNat_ofNat] at hs he hf
  rw [Nat.mod_eq_of_lt hX, Nat.mod_eq_of_lt hX'] at he
  rw [Nat.mod_eq_of_lt hF, Nat.mod_eq_of_lt hF'] at hf
  exact ⟨hs, he, hf⟩

end Sys2Proof.Machine
end

section
/-! The pattern of a number of either format. A format is given by the width `w` of its mantissa field and by `r`, what
is added to a normal number's exponent field: 3 and 120 for F143 (R66), 2 and 112 for F152 (R102). -/

namespace Sys2Proof.Machine

/-- The exponent field `X` of the pattern of a number with exponent field `e` and mantissa field `m` (R66, R102). -/
def numberExp (w r e m : Nat) : Nat :=
  if e = 0 then if m = 0 then 0 else r + 1 - w + m.log2 else e + r

/-- The fraction field `F` of that pattern (R66, R102). -/
def numberFrac (w e m : Nat) : Nat :=
  if e = 0 then if m = 0 then 0 else (m - 1 <<< m.log2) <<< (23 - m.log2) else m <<< (23 - w)

/-- The pattern with these fields. -/
def numberPattern (w r : Nat) (s : BitVec 1) (e m : Nat) : F32 := f32Pack s (numberExp w r e m) (numberFrac w e m)

variable {w r e m e' m' : Nat}

/-- The place of a subnormal's leading one is inside the mantissa field, so `X` is at most `r` when `e` is 0. -/
theorem numberExp_le (hr : w ≤ r) (hm : m < 2 ^ w) : numberExp w r e m ≤ e + r := by
  unfold numberExp
  split_ifs with he h0
  · omega
  · have := (Nat.log2_lt h0).mpr hm
    omega
  · exact le_rfl

/-- The exponent field is read back from `X` by subtracting `r`, truncated at 0. -/
theorem numberExp_sub (hr : w ≤ r) (hm : m < 2 ^ w) : numberExp w r e m - r = e := by
  rcases Nat.eq_zero_or_pos e with rfl | he
  · have := numberExp_le (e := 0) hr hm
    omega
  · simp [numberExp, he.ne']

theorem numberFrac_lt (hw : w ≤ 23) (hm : m < 2 ^ w) : numberFrac w e m < 2 ^ 23 := by
  unfold numberFrac
  split_ifs with he h0
  · decide
  · have hk : m.log2 ≤ 23 := by have := (Nat.log2_lt h0).mpr hm; omega
    have hlow : m - 1 <<< m.log2 < 2 ^ m.log2 := by
      have := Nat.lt_log2_self (n := m)
      rw [Nat.one_shiftLeft]
      omega
    exact (Nat.shiftLeft_lt hlow).trans_eq (by rw [Nat.add_sub_cancel' hk])
  · exact (Nat.shiftLeft_lt hm).trans_eq (by rw [Nat.add_sub_cancel' hw])

theorem eq_of_shiftLeft_eq {a b k : Nat} (h : a <<< k = b <<< k) : a = b := by
  rw [← Nat.shiftLeft_shiftRight a k, h, Nat.shiftLeft_shiftRight]

/-- Among the subnormals and zero, `X` tells the place of the leading one and `F` the bits below it. -/
theorem mant_eq_of_exp_zero (hr : w ≤ r) (hX : numberExp w r 0 m = numberExp w r 0 m')
    (hF : numberFrac w 0 m = numberFrac w 0 m') : m = m' := by
  by_cases h : m = 0 <;> by_cases h' : m' = 0 <;>
    simp only [numberExp, numberFrac, h, h', if_true, if_false] at hX hF
  · rw [h, h']
  · omega
  · omega
  · have hk : m.log2 = m'.log2 := by omega
    have hle := Nat.log2_self_le h
    have hle' := Nat.log2_self_le h'
    rw [hk] at hF hle
    have hlow := eq_of_shiftLeft_eq hF
    rw [Nat.one_shiftLeft] at hlow
    omega

theorem fields_eq_of_numberFields_eq (hr : w ≤ r) (hm : m < 2 ^ w) (hm' : m' < 2 ^ w)
    (hX : numberExp w r e m = numberExp w r e' m') (hF : numberFrac w e m = numberFrac w e' m') :
    e = e' ∧ m = m' := by
  obtain rfl : e = e' := by rw [← numberExp_sub (e := e) hr hm, hX, numberExp_sub hr hm']
  rcases Nat.eq_zero_or_pos e with rfl | he
  · exact ⟨rfl, mant_eq_of_exp_zero hr hX hF⟩
  · simp only [numberFrac, he.ne', if_false] at hF
    exact ⟨rfl, eq_of_shiftLeft_eq hF⟩

/-- Numbers with different fields have different patterns (R71). The fields of the NaN byte, to which a decoder does not
apply this formula, are no exception. -/
theorem numberPattern_injective {s s' : BitVec 1} (hw : w ≤ 23) (hr : w ≤ r) (he : e + r < 255) (he' : e' + r < 255)
    (hm : m < 2 ^ w) (hm' : m' < 2 ^ w) (h : numberPattern w r s e m = numberPattern w r s' e' m') :
    s = s' ∧ e = e' ∧ m = m' := by
  have hX := numberExp_le (e := e) hr hm
  have hX' := numberExp_le (e := e') hr hm'
  obtain ⟨hs, hXX, hFF⟩ := f32Pack_injective (by omega) (by omega) (numberFrac_lt hw hm) (numberFrac_lt hw hm') h
  exact ⟨hs, fields_eq_of_numberFields_eq hr hm hm' hXX hFF⟩

/-- The pattern of a number is no NaN: its exponent field is not all ones. -/
theorem numberPattern_not_f32IsNan (s : BitVec 1) (hr : w ≤ r) (he : e + r < 255) (hm : m < 2 ^ w) :
    f32IsNan (numberPattern w r s e m) ≠ true := by
  rw [Ne, f32IsNan_iff, numberPattern, f32Exp_f32Pack]
  rintro ⟨hX, -⟩
  have := numberExp_le (e := e) hr hm
  have := congrArg BitVec.toNat hX
  simp only [BitVec.toNat_ofNat] at this
  omega

end Sys2Proof.Machine
end

section
/-! `F143.DECODE` and `F152.DECODE` byte by byte: the NaN test, and off NaN the pattern of the fields. -/

namespace Sys2Proof

theorem F143.isNan_iff {x : F143} : x.isNan = true ↔ x.exp = 15#4 ∧ x.mant = 7#3 := by simp [F143.isNan]

theorem F152.isNan_iff {x : F152} : x.isNan = true ↔ x.exp = 31#5 ∧ x.mant = 3#2 := by simp [F152.isNan]

/-- Equal fields, equal bytes. -/
theorem F143.ext_fields {x y : F143} (hs : x.sign = y.sign) (he : x.exp.toNat = y.exp.toNat)
    (hm : x.mant.toNat = y.mant.toNat) : x = y := by
  have hb : x.byte.toNat = y.byte.toNat := by rw [byte_toNat_eq_fields, byte_toNat_eq_fields y, hs, he, hm]
  cases x
  cases y
  exact congrArg F143.mk (BitVec.eq_of_toNat_eq hb)

@[simp] theorem F143.neg_sign (x : F143) : x.neg.sign = x.sign ^^^ 1#1 := by
  simp [F143.neg, F143.sign, BitVec.extractLsb'_xor]

@[simp] theorem F143.neg_exp (x : F143) : x.neg.exp = x.exp := by
  simp [F143.neg, F143.exp, BitVec.extractLsb'_xor]

@[simp] theorem F143.neg_mant (x : F143) : x.neg.mant = x.mant := by
  simp [F143.neg, F143.mant, BitVec.extractLsb'_xor]

@[simp] theorem F143.neg_isNan (x : F143) : x.neg.isNan = x.isNan := by simp [F143.isNan]

namespace Machine

theorem yields_f143Decode_iff {x : F143} {s : State} {y : F32} :
    yields (.f143Decode x) s (.f32 y) ↔ y = decodeF143 s.cfg x := by simp [yields_iff, valueOf]

theorem yields_f152Decode_iff {x : F152} {s : State} {y : F32} :
    yields (.f152Decode x) s (.f32 y) ↔ y = decodeF152 s.cfg x := by simp [yields_iff, valueOf]

theorem decodeF143_of_isNan (cfg : Config) {x : F143} (h : x.isNan = true) :
    decodeF143 cfg x = cfg.f32NanCanon.bits := by simp [decodeF143, h]

theorem decodeF152_of_isNan (cfg : Config) {x : F152} (h : x.isNan = true) :
    decodeF152 cfg x = cfg.f32NanCanon.bits := by simp [decodeF152, h]

theorem decodeF143_of_not_isNan (cfg : Config) {x : F143} (h : x.isNan = false) :
    decodeF143 cfg x = numberPattern 3 120 x.sign x.exp.toNat x.mant.toNat := by
  simp only [decodeF143, numberPattern, numberExp, numberFrac, h, Bool.false_eq_true, if_false]
  split_ifs <;> rfl

theorem decodeF152_of_not_isNan (cfg : Config) {x : F152} (h : x.isNan = false) :
    decodeF152 cfg x = numberPattern 2 112 x.sign x.exp.toNat x.mant.toNat := by
  simp only [decodeF152, numberPattern, numberExp, numberFrac, h, Bool.false_eq_true, if_false]
  split_ifs <;> rfl

/-- Settles O28: both zeros take the branch of mantissa field 0, in every build. -/
theorem signedZerosDecodeToSignedZeros : Obligations.SignedZerosDecodeToSignedZeros := fun _ =>
  ⟨yields_f143Decode_iff.mpr rfl, yields_f143Decode_iff.mpr rfl, yields_f152Decode_iff.mpr rfl,
    yields_f152Decode_iff.mpr rfl⟩

/-! ### NaN (R68, R103) -/

/-- A decoded pattern is a binary32 NaN exactly for a NaN byte. -/
theorem f32IsNan_decodeF143_iff (cfg : Config) (x : F143) : f32IsNan (decodeF143 cfg x) = true ↔ x.isNan = true := by
  cases h : x.isNan with
  | true => simp [decodeF143_of_isNan cfg h, f32NanCanon_isNan]
  | false =>
    have := x.exp.isLt
    simpa [decodeF143_of_not_isNan cfg h] using
      numberPattern_not_f32IsNan x.sign (w := 3) (r := 120) (by decide) (by omega) x.mant.isLt

theorem f32IsNan_decodeF152_iff (cfg : Config) (x : F152) : f32IsNan (decodeF152 cfg x) = true ↔ x.isNan = true := by
  cases h : x.isNan with
  | true => simp [decodeF152_of_isNan cfg h, f32NanCanon_isNan]
  | false =>
    have := x.exp.isLt
    simpa [decodeF152_of_not_isNan cfg h] using
      numberPattern_not_f32IsNan x.sign (w := 2) (r := 112) (by decide) (by omega) x.mant.isLt

/-- Plus or minus 480, which the formula for numbers gives for the fields of a NaN byte, is no decoded pattern: only
these fields have it, and the decoder tests them for NaN first. -/
theorem decodeF143_ne_numberPattern_nan (cfg : Config) (x : F143) (s : BitVec 1) :
    decodeF143 cfg x ≠ numberPattern 3 120 s 15 7 := by
  intro heq
  have h : x.isNan = false := by
    rw [← Bool.not_eq_true, ← f32IsNan_decodeF143_iff cfg, heq]
    exact numberPattern_not_f32IsNan s (by decide) (by decide) (by decide)
  have hexp := x.exp.isLt
  rw [decodeF143_of_not_isNan cfg h] at heq
  obtain ⟨-, he, hm⟩ :=
    numberPattern_injective (by decide) (by decide) (by omega) (by decide) x.mant.isLt (by decide) heq
  have := F143.isNan_iff.mpr ⟨BitVec.eq_of_toNat_eq he, BitVec.eq_of_toNat_eq hm⟩
  simp [h] at this

/-- The same of plus or minus 114688. -/
theorem decodeF152_ne_numberPattern_nan (cfg : Config) (x : F152) (s : BitVec 1) :
    decodeF152 cfg x ≠ numberPattern 2 112 s 31 3 := by
  intro heq
  have h : x.isNan = false := by
    rw [← Bool.not_eq_true, ← f32IsNan_decodeF152_iff cfg, heq]
    exact numberPattern_not_f32IsNan s (by decide) (by decide) (by decide)
  have hexp := x.exp.isLt
  rw [decodeF152_of_not_isNan cfg h] at heq
  obtain ⟨-, he, hm⟩ :=
    numberPattern_injective (by decide) (by decide) (by omega) (by decide) x.mant.isLt (by decide) heq
  have := F152.isNan_iff.mpr ⟨BitVec.eq_of_toNat_eq he, BitVec.eq_of_toNat_eq hm⟩
  simp [h] at this

theorem f143_nan_reported (s : State) {x : F143} (h : x.isNan = true) :
    yields (.f143IsNan x) s (.bit 1#1) ∧ yields (.f143Decode x) s (.f32 s.cfg.f32NanCanon.bits) :=
  ⟨yields_iff.mpr (by simp [valueOf, wire, h]), yields_f143Decode_iff.mpr (decodeF143_of_isNan s.cfg h).symm⟩

theorem f152_nan_reported (s : State) {x : F152} (h : x.isNan = true) :
    yields (.f152IsNan x) s (.bit 1#1) ∧ yields (.f152Decode x) s (.f32 s.cfg.f32NanCanon.bits) :=
  ⟨yields_iff.mpr (by simp [valueOf, wire, h]), yields_f152Decode_iff.mpr (decodeF152_of_isNan s.cfg h).symm⟩

/-- Settles O29: the NaN branch answers the canonical pattern, and off it the pattern of the fields is neither a NaN nor
the pattern of the NaN byte's fields. -/
theorem nanIsTestedFirstInDecode : Obligations.NanIsTestedFirstInDecode := by
  refine ⟨fun s x he hm => f143_nan_reported s (F143.isNan_iff.mpr ⟨he, hm⟩), fun s x y hy => ?_,
    fun s x he hm => f152_nan_reported s (F152.isNan_iff.mpr ⟨he, hm⟩), fun s x y hy => ?_⟩
  · obtain rfl := yields_f143Decode_iff.mp hy
    exact ⟨decodeF143_ne_numberPattern_nan s.cfg x 0#1, decodeF143_ne_numberPattern_nan s.cfg x 1#1,
      (f32IsNan_decodeF143_iff s.cfg x).trans F143.isNan_iff⟩
  · obtain rfl := yields_f152Decode_iff.mp hy
    exact ⟨decodeF152_ne_numberPattern_nan s.cfg x 0#1, decodeF152_ne_numberPattern_nan s.cfg x 1#1,
      (f32IsNan_decodeF152_iff s.cfg x).trans F152.isNan_iff⟩

end Machine

end Sys2Proof
end

section
/-! The laws of `F143.DECODE` (R71). A number's magnitude is its grid magnitude in units of `2^-9` (R79), which grows
with the seven bits below the sign. -/

namespace Sys2Proof.Machine

/-- Flipping the sign bit of a byte that is no NaN flips bit 31 of its pattern. -/
theorem decodeF143_neg (cfg : Config) {x : F143} (h : x.isNan = false) :
    decodeF143 cfg x.neg = decodeF143 cfg x ^^^ 0x80000000#32 := by
  rw [decodeF143_of_not_isNan cfg h, decodeF143_of_not_isNan cfg (x.neg_isNan.trans h), F143.neg_sign, F143.neg_exp,
    F143.neg_mant]
  exact f32Pack_flip_sign x.sign _ _

/-- Different bytes that are no NaN have different patterns. -/
theorem decodeF143_injective (cfg : Config) {x y : F143} (hx : x.isNan = false) (hy : y.isNan = false)
    (h : decodeF143 cfg x = decodeF143 cfg y) : x = y := by
  rw [decodeF143_of_not_isNan cfg hx, decodeF143_of_not_isNan cfg hy] at h
  have hex := x.exp.isLt
  have hey := y.exp.isLt
  obtain ⟨hs, he, hm⟩ :=
    numberPattern_injective (by decide) (by decide) (by omega) (by omega) x.mant.isLt y.mant.isLt h
  exact F143.ext_fields hs he hm

/-- The grid magnitude as a function of the seven bits below the sign. -/
def gridOfBits (n : Nat) : Nat := if n < 8 then n else (8 + n % 8) * 2 ^ (n / 8 - 1)

theorem gridMag_eq_gridOfBits (x : F143) : gridMag x = gridOfBits (x.byte.toNat % 128) := by
  have he : x.exp.toNat = x.byte.toNat % 128 / 8 := by rw [x.exp_toNat]; omega
  have hm : x.mant.toNat = x.byte.toNat % 128 % 8 := by rw [x.mant_toNat]; omega
  simp only [gridMag, F143.sig, F143.effExp, gridOfBits, he, hm, Nat.shiftLeft_eq]
  by_cases h : x.byte.toNat % 128 < 8
  · have h0 : x.byte.toNat % 128 / 8 = 0 := by omega
    have h1 : x.byte.toNat % 128 % 8 = x.byte.toNat % 128 := by omega
    simp [h, h0, h1]
  · have h0 : x.byte.toNat % 128 / 8 ≠ 0 := by omega
    simp [h, h0]

/-- One step up is one unit more below 8 units, and `2^(E-1)` units more above, also where the exponent field steps. -/
theorem gridOfBits_strictMono : StrictMono gridOfBits := by
  refine strictMono_nat_of_lt_succ fun n => ?_
  rcases lt_trichotomy n 7 with hn | rfl | hn
  · simp only [gridOfBits]
    rw [if_pos (by omega), if_pos (by omega)]
    exact n.lt_succ_self
  · decide
  · simp only [gridOfBits]
    rw [if_neg (by omega), if_neg (by omega)]
    by_cases hcarry : n % 8 = 7
    · obtain ⟨k, hk⟩ : ∃ k, n / 8 = k + 1 := ⟨n / 8 - 1, by omega⟩
      have hq : (n + 1) / 8 = k + 2 := by omega
      have hr : (n + 1) % 8 = 0 := by omega
      have := Nat.two_pow_pos k
      simp only [hk, hq, hr, hcarry, Nat.add_sub_cancel, pow_succ, show k + 2 - 1 = k + 1 from rfl]
      omega
    · have hq : (n + 1) / 8 = n / 8 := by omega
      have hr : (n + 1) % 8 = n % 8 + 1 := by omega
      rw [hq, hr]
      gcongr
      exact (n % 8).lt_succ_self

/-- The value of a number is its grid magnitude in units of `2^-9`, with the sign (R67, R79). -/
theorem val143_of_not_isNan {x : F143} (h : x.isNan = false) :
    val143 x = some (signFactor x.sign * ((gridMag x : ℚ) / 512)) := by
  simp only [val143, gridMag, F143.sig, F143.effExp, h, Bool.false_eq_true, if_false, Nat.shiftLeft_eq]
  split_ifs with he
  · congr 1
    norm_num
    ring
  · obtain ⟨k, hk⟩ : ∃ k, x.exp.toNat = k + 1 := ⟨x.exp.toNat - 1, by omega⟩
    have hpow : (2 : ℚ) ^ ((x.exp.toNat : ℤ) - 7) = 2 ^ k / 64 := by
      rw [hk, show ((k + 1 : ℕ) : ℤ) - 7 = (k : ℤ) - 6 by omega, zpow_sub₀ two_ne_zero, zpow_natCast]
      norm_num
    rw [hpow, hk]
    push_cast [Nat.add_sub_cancel]
    congr 1
    ring

theorem val143_eq_some_iff {x : F143} {q : ℚ} :
    val143 x = some q ↔ x.isNan = false ∧ q = signFactor x.sign * ((gridMag x : ℚ) / 512) := by
  cases h : x.isNan with
  | true => simp [val143, h]
  | false => simp [val143_of_not_isNan h, eq_comm]

theorem abs_signFactor (s : BitVec 1) : |signFactor s| = 1 := by
  unfold signFactor
  split_ifs <;> simp

/-- The magnitudes of two numbers are in the order of the seven bits below the sign. -/
theorem abs_val143_lt_iff {x y : F143} {p q : ℚ} (hx : val143 x = some p) (hy : val143 y = some q) :
    |p| < |q| ↔ x.byte.toNat % 128 < y.byte.toNat % 128 := by
  obtain ⟨-, rfl⟩ := val143_eq_some_iff.mp hx
  obtain ⟨-, rfl⟩ := val143_eq_some_iff.mp hy
  rw [abs_mul, abs_mul, abs_signFactor, abs_signFactor, one_mul, one_mul, abs_of_nonneg (by positivity),
    abs_of_nonneg (by positivity), div_lt_div_iff_of_pos_right (by norm_num), Nat.cast_lt, gridMag_eq_gridOfBits,
    gridMag_eq_gridOfBits, gridOfBits_strictMono.lt_iff_lt]

/-- A number with sign bit 0 is its magnitude, and its byte the seven bits below the sign. -/
theorem nonneg_of_sign_zero {x : F143} {q : ℚ} (hs : x.sign = 0#1) (hx : val143 x = some q) :
    0 ≤ q ∧ x.byte.toNat % 128 = x.byte.toNat := by
  obtain ⟨-, rfl⟩ := val143_eq_some_iff.mp hx
  have hb := x.sign_toNat
  rw [hs] at hb ⊢
  exact ⟨by simp only [signFactor]; norm_num; positivity, by simp at hb; omega⟩

theorem val143_lt_iff_of_sign_zero {x y : F143} {p q : ℚ} (hsx : x.sign = 0#1) (hsy : y.sign = 0#1)
    (hx : val143 x = some p) (hy : val143 y = some q) : x.byte.toNat < y.byte.toNat ↔ p < q := by
  obtain ⟨hp, hbx⟩ := nonneg_of_sign_zero hsx hx
  obtain ⟨hq, hby⟩ := nonneg_of_sign_zero hsy hy
  have := abs_val143_lt_iff hx hy
  rwa [abs_of_nonneg hp, abs_of_nonneg hq, hbx, hby, Iff.comm] at this

/-- A larger exponent field is a larger magnitude, of any sign. -/
theorem abs_val143_lt_of_exp_lt {x y : F143} {p q : ℚ} (h : x.exp < y.exp) (hx : val143 x = some p)
    (hy : val143 y = some q) : |p| < |q| := by
  have he := BitVec.lt_def.mp h
  rw [x.exp_toNat, y.exp_toNat] at he
  exact (abs_val143_lt_iff hx hy).mpr (by omega)

/-- Settles O27: the sign bit is packed as it stands, the fields can be read back from the pattern, and the grid
magnitude grows with the seven bits below the sign. -/
theorem f143DecodeLaws : Obligations.F143DecodeLaws := by
  refine ⟨fun s x h => ⟨_, yields_f143Decode_iff.mpr rfl, yields_f143Decode_iff.mpr (decodeF143_neg s.cfg h).symm⟩,
    fun s x₁ x₂ y h₁ h₂ hy₁ hy₂ => ?_, fun s y₀ y₁ hy₀ hy₁ => ?_,
    fun x₁ x₂ q₁ q₂ hs₁ hs₂ hq₁ hq₂ => val143_lt_iff_of_sign_zero hs₁ hs₂ hq₁ hq₂,
    fun x₁ x₂ q₁ q₂ _ _ _ _ he hq₁ hq₂ => abs_val143_lt_of_exp_lt he hq₁ hq₂⟩
  · rw [yields_f143Decode_iff] at hy₁ hy₂
    exact decodeF143_injective s.cfg h₁ h₂ (hy₁.symm.trans hy₂)
  · rw [yields_f143Decode_iff] at hy₀ hy₁
    rw [hy₀, hy₁]
    exact decodeF143_neg s.cfg (x := ⟨0x00#8⟩) rfl

end Sys2Proof.Machine
end

section
/-! The adder's integers (R79, R80): a number is its signed grid integer in units of `2^-9`, and no more than 229376
units away from zero. -/

namespace Sys2Proof

theorem F143.eq_iff_byte {x y : F143} : x = y ↔ x.byte.toNat = y.byte.toNat := by
  rw [BitVec.toNat_inj]
  cases x
  cases y
  simp

theorem F143.isNan_iff_bits {x : F143} : x.isNan = true ↔ x.byte.toNat % 128 = 127 := by
  have he := x.exp_toNat
  have hm := x.mant_toNat
  rw [isNan_iff, ← BitVec.toNat_inj, ← BitVec.toNat_inj, he, hm, BitVec.toNat_ofNat, BitVec.toNat_ofNat]
  omega

theorem F143.bits_lt_of_not_isNan {x : F143} (h : x.isNan = false) : x.byte.toNat % 128 < 127 := by
  have hne : ¬x.byte.toNat % 128 = 127 := by simp [← isNan_iff_bits, h]
  omega

namespace Machine

theorem gridInt_of_sign_zero {x : F143} (h : x.sign = 0#1) : gridInt x = gridMag x := by simp [gridInt, h]

theorem gridInt_of_sign_one {x : F143} (h : x.sign = 1#1) : gridInt x = -(gridMag x : ℤ) := by simp [gridInt, h]

@[simp] theorem natAbs_gridInt (x : F143) : (gridInt x).natAbs = gridMag x := by
  unfold gridInt
  split_ifs <;> simp

theorem gridMag_le {x : F143} (h : x.isNan = false) : gridMag x ≤ 229376 :=
  calc gridMag x = gridOfBits (x.byte.toNat % 128) := gridMag_eq_gridOfBits x
    _ ≤ gridOfBits 126 := gridOfBits_strictMono.monotone (by have := F143.bits_lt_of_not_isNan h; omega)
    _ = 229376 := by decide

theorem gridMag_eq_zero_iff {x : F143} : gridMag x = 0 ↔ x.byte.toNat % 128 = 0 := by
  rw [gridMag_eq_gridOfBits, ← gridOfBits_strictMono.injective.eq_iff (a := x.byte.toNat % 128)]
  rfl

/-- The value of a number is its grid integer in units of `2^-9` (R80). -/
theorem val143_eq_gridInt {x : F143} {q : ℚ} (h : val143 x = some q) : q = (gridInt x : ℚ) / 512 := by
  obtain ⟨-, rfl⟩ := val143_eq_some_iff.mp h
  simp only [signFactor, gridInt]
  split_ifs <;> push_cast <;> ring

/-- The exact sum of two numbers is the sum of their grid integers in units of `2^-9` (R80). -/
theorem val143_add_eq_grid {a b : F143} {va vb : ℚ} (ha : val143 a = some va) (hb : val143 b = some vb) :
    va + vb = ((gridInt a + gridInt b : ℤ) : ℚ) / 512 := by
  rw [val143_eq_gridInt ha, val143_eq_gridInt hb]
  push_cast
  ring

/-- Settles O45: `val143` is the grid integer in units of `2^-9`, and the grid magnitude grows up to that of byte 0x7E. -/
theorem gridArithmeticIsExact : Obligations.GridArithmeticIsExact := by
  refine ⟨fun x q hq => ⟨val143_eq_gridInt hq, rfl, gridMag_le (val143_eq_some_iff.mp hq).1⟩,
    fun a b va vb ha hb => ⟨val143_add_eq_grid ha hb, ?_⟩⟩
  have hMa := gridMag_le (val143_eq_some_iff.mp ha).1
  have hMb := gridMag_le (val143_eq_some_iff.mp hb).1
  rw [← natAbs_gridInt] at hMa hMb
  omega

end Machine

end Sys2Proof
end

section
/-! Packing a result (R81, R82, R85): in each case a sign in front of seven bits, or NaN from 127 on. -/

namespace Sys2Proof.Machine

/-- The byte of a sign and the seven bits below it. -/
def packBits (s : BitVec 1) (n : Nat) : F143 := ⟨s ++ BitVec.ofNat 7 n⟩

/-- The same, but what does not fit below the NaN pattern is NaN (R85). -/
def packOrNan (cfg : Config) (s : BitVec 1) (n : Nat) : F143 := if n < 127 then packBits s n else canonNan cfg

variable {cfg : Config} {s : BitVec 1} {n : Nat}

theorem packBits_byte_toNat (hn : n < 128) : (packBits s n).byte.toNat = s.toNat * 128 + n := by
  rw [packBits, BitVec.toNat_append, BitVec.toNat_ofNat, Nat.mod_eq_of_lt (by omega),
    ← Nat.shiftLeft_add_eq_or_of_lt (by omega), Nat.shiftLeft_eq]

theorem packBits_bits (hn : n < 128) : (packBits s n).byte.toNat % 128 = n := by
  rw [packBits_byte_toNat hn]
  omega

@[simp] theorem packBits_sign : (packBits s n).sign = s := BitVec.extractLsb'_append_eq_left

/-- A byte is its sign in front of its seven bits. -/
theorem packBits_sign_bits (x : F143) : packBits x.sign (x.byte.toNat % 128) = x := by
  rw [F143.eq_iff_byte, packBits_byte_toNat (by omega), x.sign_toNat]
  omega

theorem packBits_isNan (hn : n < 127) : (packBits s n).isNan = false := by
  rw [← Bool.not_eq_true, F143.isNan_iff_bits, packBits_bits (by omega)]
  omega

theorem gridMag_packBits (hn : n < 128) : gridMag (packBits s n) = gridOfBits n := by
  rw [gridMag_eq_gridOfBits, packBits_bits hn]

theorem val143_packBits (hn : n < 127) : val143 (packBits s n) = some (signFactor s * ((gridOfBits n : ℚ) / 512)) := by
  rw [val143_of_not_isNan (packBits_isNan hn), packBits_sign, gridMag_packBits (by omega)]

theorem packOrNan_of_lt (hn : n < 127) : packOrNan cfg s n = packBits s n := if_pos hn

theorem packOrNan_of_le (hn : 127 ≤ n) : packOrNan cfg s n = canonNan cfg := if_neg (by omega)

/-- What does not fit is NaN, and nothing else. -/
theorem packOrNan_isNan_iff : (packOrNan cfg s n).isNan = true ↔ 127 ≤ n := by
  rcases Nat.lt_or_ge n 127 with hn | hn
  · simp [packOrNan_of_lt hn, packBits_isNan hn, hn]
  · simp [packOrNan_of_le hn, canonNan_isNan, hn]

theorem packZero_eq : packZero s = packBits s 0 := rfl

theorem packSubnormal_eq (hn : n < 8) : packSubnormal s n = packOrNan cfg s n := by
  rw [packOrNan_of_lt (by omega), F143.eq_iff_byte, packBits_byte_toNat (by omega)]
  simp only [packSubnormal, BitVec.toNat_append, BitVec.toNat_ofNat]
  rw [← Nat.shiftLeft_add_eq_or_of_lt (by omega), ← Nat.shiftLeft_add_eq_or_of_lt (by omega)]
  simp only [Nat.shiftLeft_eq]
  omega

/-- Exponent field and significand, of four bits, in one number of seven bits (R85). -/
theorem packNormal_eq {er q : Nat} (hq : 8 ≤ q) (hq' : q < 16) :
    packNormal cfg s er q = packOrNan cfg s (er * 8 + (q - 8)) := by
  unfold packNormal
  split_ifs with h
  · rw [packOrNan_of_le (by omega)]
  · rw [packOrNan_of_lt (by omega), F143.eq_iff_byte, packBits_byte_toNat (by omega)]
    simp only [BitVec.toNat_append, BitVec.toNat_ofNat]
    rw [← Nat.shiftLeft_add_eq_or_of_lt (by omega), ← Nat.shiftLeft_add_eq_or_of_lt (by omega)]
    simp only [Nat.shiftLeft_eq]
    omega

end Sys2Proof.Machine
end

section
/-! Rounding (R83, R84): the adder's guard and sticky bits say on which side of half the dropped part lies. Sign aside, a
sum is the seven bits `roundedBits M` of its magnitude `M`, unbounded above, and these are nearest to `M`. -/

namespace Sys2Proof.Machine

/-- `M` is rounded up when `sh` bits are dropped: the dropped part is more than half, or half and the rest is odd. -/
def roundsUp (M sh : Nat) : Bool :=
  decide (2 ^ sh < 2 * (M % 2 ^ sh) ∨ (2 * (M % 2 ^ sh) = 2 ^ sh ∧ M / 2 ^ sh % 2 = 1))

theorem guardBit_zero (M : Nat) : guardBit M 0 = false := rfl

theorem guardBit_succ (M k : Nat) : guardBit M (k + 1) = decide (M / 2 ^ k % 2 = 1) := by
  simp [guardBit, Nat.testBit_eq_decide_div_mod_eq]

theorem stickyBit_succ (M k : Nat) : stickyBit M (k + 1) = decide (M % 2 ^ k ≠ 0) := by
  cases k <;> simp [stickyBit, Nat.mod_one]

/-- The round-up bit of R83 is the comparison of the dropped part with half. -/
theorem roundUpBit_eq (M sh : Nat) :
    (guardBit M sh && (stickyBit M sh || (M / 2 ^ sh).testBit 0)) = roundsUp M sh := by
  cases sh with
  | zero => simp [guardBit_zero, roundsUp, Nat.mod_one]
  | succ k =>
    have hlow := Nat.mod_lt M (Nat.two_pow_pos k)
    have hsplit : M % 2 ^ (k + 1) = M % 2 ^ k + 2 ^ k * (M / 2 ^ k % 2) := Nat.mod_pow_succ
    rw [Bool.eq_iff_iff]
    simp only [guardBit_succ, stickyBit_succ, Nat.testBit_eq_decide_div_mod_eq, pow_zero, Nat.div_one,
      Bool.and_eq_true, Bool.or_eq_true, decide_eq_true_eq, roundsUp, hsplit]
    rcases Nat.mod_two_eq_zero_or_one (M / 2 ^ k) with hbit | hbit <;> rw [hbit, pow_succ] <;> omega

/-- `M` without its low `sh` bits, rounded to nearest, ties to even. -/
def roundedQuotient (M sh : Nat) : Nat := M / 2 ^ sh + (roundsUp M sh).toNat

/-- Bits appended to `M` and dropped again change nothing. -/
theorem roundedQuotient_mul_two_pow (M sh t : Nat) :
    roundedQuotient (M * 2 ^ t) (sh + t) = roundedQuotient M sh := by
  have ht := Nat.two_pow_pos t
  have hlt : 2 ^ sh * 2 ^ t < 2 * (M % 2 ^ sh * 2 ^ t) ↔ 2 ^ sh < 2 * (M % 2 ^ sh) := by
    rw [← mul_assoc, Nat.mul_lt_mul_right ht]
  have heq : 2 * (M % 2 ^ sh * 2 ^ t) = 2 ^ sh * 2 ^ t ↔ 2 * (M % 2 ^ sh) = 2 ^ sh := by
    rw [← mul_assoc, Nat.mul_left_inj ht.ne']
  simp only [roundedQuotient, roundsUp, pow_add, Nat.mul_mod_mul_right, Nat.mul_div_mul_right _ _ ht, hlt, heq]

/-- A magnitude from 8 units on has four leading bits. -/
theorem quotient_bounds {M : Nat} (hM : 8 ≤ M) : 8 ≤ M / 2 ^ (M.log2 - 3) ∧ M / 2 ^ (M.log2 - 3) < 16 := by
  have hp : 3 ≤ M.log2 := (Nat.le_log2 (by omega)).mpr hM
  have hpow : 2 ^ M.log2 = 2 ^ 3 * 2 ^ (M.log2 - 3) := by rw [← pow_add, Nat.add_sub_cancel' hp]
  have hle := Nat.log2_self_le (n := M) (by omega)
  have hlt := Nat.lt_log2_self (n := M)
  exact ⟨(Nat.le_div_iff_mul_le (Nat.two_pow_pos _)).mpr (by omega),
    (Nat.div_lt_iff_lt_mul (Nat.two_pow_pos _)).mpr (by omega)⟩

/-- The seven bits of the magnitude `M`: below 8 units `M` itself, from there on the exponent field `p - 2` and four
rounded bits, of which the leading one is not stored; a rounding carry goes into the exponent field (R82 to R85). -/
def roundedBits (M : Nat) : Nat :=
  if M < 8 then M else (M.log2 - 2) * 8 + (roundedQuotient M (M.log2 - 3) - 8)

theorem roundedBits_of_lt {M : Nat} (hM : M < 8) : roundedBits M = M := if_pos hM

theorem roundedBits_of_le {M : Nat} (hM : 8 ≤ M) :
    roundedBits M = (M.log2 - 2) * 8 + (roundedQuotient M (M.log2 - 3) - 8) := if_neg (by omega)

/-- Rounding and packing (R83 to R85) in one number of seven bits, for a four-bit quotient. -/
theorem roundNormal_eq (cfg : Config) (s : BitVec 1) (er : Nat) {M p : Nat} (hq : 8 ≤ M / 2 ^ (p - 3))
    (hq' : M / 2 ^ (p - 3) < 16) :
    roundNormal cfg s er M p = packOrNan cfg s (er * 8 + (roundedQuotient M (p - 3) - 8)) := by
  have hup := Bool.toNat_le (roundsUp M (p - 3))
  simp only [roundNormal, Nat.shiftRight_eq_div_pow, roundUpBit_eq, roundedQuotient]
  split_ifs with hcarry
  · rw [packNormal_eq le_rfl (by decide), hcarry]
    congr 1
    omega
  · rw [packNormal_eq (by omega) (by omega)]

theorem log2_le_two_iff (M : Nat) : M.log2 ≤ 2 ↔ M < 8 := by
  rcases Nat.eq_zero_or_pos M with rfl | hM
  · decide
  · exact Nat.lt_succ_iff.symm.trans (Nat.log2_lt hM.ne')

theorem packGrid_of_lt (cfg : Config) {S : ℤ} (hM : S.natAbs < 8) :
    packGrid cfg S = packSubnormal (wire (decide (S < 0))) S.natAbs := if_pos ((log2_le_two_iff _).mpr hM)

theorem packGrid_of_le (cfg : Config) {S : ℤ} (hM : 8 ≤ S.natAbs) :
    packGrid cfg S = roundNormal cfg (wire (decide (S < 0))) (S.natAbs.log2 - 2) S.natAbs S.natAbs.log2 :=
  if_neg (mt (log2_le_two_iff _).mp (by omega))

/-- The byte of a grid sum: its sign in front of the rounded bits of its magnitude, or NaN (R82 to R85). -/
theorem packGrid_eq (cfg : Config) (S : ℤ) :
    packGrid cfg S = packOrNan cfg (wire (decide (S < 0))) (roundedBits S.natAbs) := by
  rcases Nat.lt_or_ge S.natAbs 8 with hM | hM
  · rw [packGrid_of_lt cfg hM, roundedBits_of_lt hM, packSubnormal_eq hM]
  · obtain ⟨hq, hq'⟩ := quotient_bounds hM
    rw [packGrid_of_le cfg hM, roundedBits_of_le hM, roundNormal_eq cfg _ _ hq hq']

/-! ### The rounded bits are nearest -/

/-- The distance in units between the number of the seven bits `n` and the magnitude `M`. -/
def gridDist (n M : Nat) : Nat := ((gridOfBits n : ℤ) - M).natAbs

/-- No seven bits are nearer to `M` than `n`, and if others are as near then `n` is even. -/
def NearestBits (n M : Nat) : Prop :=
  ∀ c, gridDist n M ≤ gridDist c M ∧ (gridDist c M = gridDist n M → c ≠ n → n % 2 = 0)

/-- The grid magnitude by exponent field and significand, a significand of 16 being a carry. -/
theorem gridOfBits_succ_mul {k q : Nat} (hq : 8 ≤ q) (hq' : q ≤ 16) :
    gridOfBits ((k + 1) * 8 + (q - 8)) = q * 2 ^ k := by
  unfold gridOfBits
  rw [if_neg (by omega)]
  rcases Nat.lt_or_eq_of_le hq' with hlt | rfl
  · rw [show ((k + 1) * 8 + (q - 8)) / 8 = k + 1 by omega, show 8 + ((k + 1) * 8 + (q - 8)) % 8 = q by omega,
      Nat.add_sub_cancel]
  · rw [show ((k + 1) * 8 + (16 - 8)) / 8 = k + 2 by omega, show 8 + ((k + 1) * 8 + (16 - 8)) % 8 = 8 by omega,
      show k + 2 - 1 = k + 1 from rfl, pow_succ]
    omega

theorem nearestBits_self (n : Nat) : NearestBits n (gridOfBits n) := by
  intro c
  refine ⟨by simp [gridDist], fun htie hne => absurd (gridOfBits_strictMono.injective ?_) hne⟩
  simp only [gridDist] at htie
  omega

/-- The nearer of the two neighbours below and above `M`, the even one of them at equal distance, is nearest. -/
theorem nearestBits_of_between {n M : Nat} {up : Bool} (hlo : gridOfBits n ≤ M) (hhi : M < gridOfBits (n + 1))
    (hup : up = true ↔ gridOfBits (n + 1) - M < M - gridOfBits n ∨
      (gridOfBits (n + 1) - M = M - gridOfBits n ∧ n % 2 = 1)) : NearestBits (n + up.toNat) M := by
  intro c
  have hmono := gridOfBits_strictMono
  have hc : (c = n ∨ gridOfBits c < gridOfBits n) ∨ (c = n + 1 ∨ gridOfBits (n + 1) < gridOfBits c) := by
    rw [hmono.lt_iff_lt, hmono.lt_iff_lt]
    omega
  unfold gridDist
  cases up with
  | false =>
    simp only [Bool.false_eq_true, false_iff] at hup
    rcases hc with (rfl | hc) | (rfl | hc) <;> simp only [Bool.toNat_false, Nat.add_zero] <;> omega
  | true =>
    simp only [true_iff] at hup
    rcases hc with (rfl | hc) | (rfl | hc) <;> simp only [Bool.toNat_true] <;> omega

theorem roundedBits_nearest (M : Nat) : NearestBits (roundedBits M) M := by
  rcases Nat.lt_or_ge M 8 with hM | hM
  · have hself : gridOfBits M = M := if_pos hM
    simpa [roundedBits_of_lt hM, hself] using nearestBits_self M
  · obtain ⟨hq, hq'⟩ := quotient_bounds hM
    have hp : 3 ≤ M.log2 := (Nat.le_log2 (by omega)).mpr hM
    obtain ⟨k, hk⟩ : ∃ k, M.log2 = k + 3 := ⟨M.log2 - 3, by omega⟩
    simp only [roundedBits_of_le hM, roundedQuotient, hk, Nat.add_sub_cancel] at hq hq' ⊢
    have hsplit := Nat.div_add_mod' M (2 ^ k)
    have hrest := Nat.mod_lt M (Nat.two_pow_pos k)
    have hlo := gridOfBits_succ_mul (k := k) hq (by omega)
    have hhi := gridOfBits_succ_mul (k := k) (q := M / 2 ^ k + 1) (by omega) (by omega)
    have hbits : (k + 3 - 2) * 8 + (M / 2 ^ k + (roundsUp M k).toNat - 8) =
        (k + 1) * 8 + (M / 2 ^ k - 8) + (roundsUp M k).toNat := by omega
    have hnext : (k + 1) * 8 + (M / 2 ^ k + 1 - 8) = (k + 1) * 8 + (M / 2 ^ k - 8) + 1 := by omega
    rw [hnext, add_one_mul (M / 2 ^ k)] at hhi
    rw [hbits]
    refine nearestBits_of_between (by omega) (by omega) ?_
    rw [hlo, hhi, roundsUp, decide_eq_true_iff]
    omega

end Sys2Proof.Machine
end

section
/-! `F143.ADD` (R73) by cases: a NaN operand, an exact zero sum, and the rounded bits of any other sum. -/

namespace Sys2Proof.Machine

variable {cfg : Config} {a b : F143}

theorem yields_f143Add_iff {s : State} {r : F143} : yields (.f143Add a b) s (.f143 r) ↔ r = addF143 s.cfg a b := by
  simp [yields_iff, valueOf]

theorem addF143_of_isNan (h : a.isNan = true ∨ b.isNan = true) : addF143 cfg a b = canonNan cfg :=
  if_pos (Bool.or_eq_true_iff.mpr h)

theorem addF143_of_not_isNan (ha : a.isNan = false) (hb : b.isNan = false) :
    addF143 cfg a b = if gridInt a + gridInt b = 0 then packBits (a.sign &&& b.sign) 0
      else packGrid cfg (gridInt a + gridInt b) := by
  simp [addF143, ha, hb, packZero_eq]

theorem addF143_of_sum_zero (ha : a.isNan = false) (hb : b.isNan = false) (hS : gridInt a + gridInt b = 0) :
    addF143 cfg a b = packBits (a.sign &&& b.sign) 0 := by rw [addF143_of_not_isNan ha hb, if_pos hS]

theorem addF143_of_sum_ne_zero (ha : a.isNan = false) (hb : b.isNan = false) (hS : gridInt a + gridInt b ≠ 0) :
    addF143 cfg a b =
      packOrNan cfg (wire (decide (gridInt a + gridInt b < 0))) (roundedBits (gridInt a + gridInt b).natAbs) := by
  rw [addF143_of_not_isNan ha hb, if_neg hS, packGrid_eq]

theorem addF143_comm (cfg : Config) (a b : F143) : addF143 cfg a b = addF143 cfg b a := by
  simp only [addF143, Bool.or_comm b.isNan, add_comm (gridInt b), BitVec.and_comm b.sign]

/-- Settles O41: the NaN test, the grid sum and the sign of an exact zero are each symmetric. -/
theorem additionCommutes : Obligations.AdditionCommutes := fun s a b =>
  ⟨addF143 s.cfg a b, yields_f143Add_iff.mpr rfl, yields_f143Add_iff.mpr (addF143_comm s.cfg a b)⟩

/-! ### NaN (R75, R76) -/

/-- A NaN sum is the canonical one: an exact zero is none, and of the rounded bits what does not fit. -/
theorem addF143_eq_canonNan (h : (addF143 cfg a b).isNan = true) : addF143 cfg a b = canonNan cfg := by
  by_cases hn : a.isNan = true ∨ b.isNan = true
  · exact addF143_of_isNan hn
  · obtain ⟨ha, hb⟩ : a.isNan = false ∧ b.isNan = false := by simpa using hn
    by_cases hS : gridInt a + gridInt b = 0
    · rw [addF143_of_sum_zero ha hb hS, packBits_isNan (by decide)] at h
      exact absurd h Bool.false_ne_true
    · rw [addF143_of_sum_ne_zero ha hb hS] at h ⊢
      exact packOrNan_of_le (packOrNan_isNan_iff.mp h)

/-- Settles O37: an operand's NaN is tested first, and no other branch packs a NaN pattern but the canonical one. -/
theorem nanSumsAreTheCanonicalNan : Obligations.NanSumsAreTheCanonicalNan := by
  refine ⟨fun s n v hn => ⟨canonNan s.cfg, ?_, ?_, canonNan_isNan s.cfg⟩, fun s a b r hr hnan => ?_⟩
  · exact yields_f143Add_iff.mpr (addF143_of_isNan (.inl hn)).symm
  · exact yields_f143Add_iff.mpr (addF143_of_isNan (.inr hn)).symm
  · obtain rfl := yields_f143Add_iff.mp hr
    exact congrArg F143.byte (addF143_eq_canonNan hnan)

end Sys2Proof.Machine
end

section
/-! Zeros (R81, R87): a sum is a zero byte only if it is exactly zero, and a number is the rounding of itself. -/

namespace Sys2Proof

theorem F143.zero_byte_iff {x : F143} : (x.byte = 0x00#8 ∨ x.byte = 0x80#8) ↔ x.byte.toNat % 128 = 0 := by
  rw [← BitVec.toNat_inj, ← BitVec.toNat_inj, BitVec.toNat_ofNat, BitVec.toNat_ofNat]
  omega

theorem F143.negZero_byte_iff {x : F143} : x.byte = 0x80#8 ↔ x.sign = 1#1 ∧ x.byte.toNat % 128 = 0 := by
  rw [← BitVec.toNat_inj, ← BitVec.toNat_inj, x.sign_toNat, BitVec.toNat_ofNat, BitVec.toNat_ofNat]
  omega

namespace Machine

variable {cfg : Config} {a b : F143}

/-- A nonzero magnitude is nearer to one unit than to zero. -/
theorem roundedBits_ne_zero {M : Nat} (hM : M ≠ 0) : roundedBits M ≠ 0 := by
  intro h0
  have hnear := (roundedBits_nearest M 1).1
  rw [h0, gridDist, gridDist, show gridOfBits 0 = 0 from rfl, show gridOfBits 1 = 1 from rfl] at hnear
  omega

theorem addF143_bits_eq_zero_iff (ha : a.isNan = false) (hb : b.isNan = false) :
    (addF143 cfg a b).byte.toNat % 128 = 0 ↔ gridInt a + gridInt b = 0 := by
  by_cases hS : gridInt a + gridInt b = 0
  · simp [addF143_of_sum_zero ha hb hS, packBits_bits (n := 0) (by decide), hS]
  · have hne := roundedBits_ne_zero (Int.natAbs_ne_zero.mpr hS)
    rw [addF143_of_sum_ne_zero ha hb hS]
    rcases Nat.lt_or_ge (roundedBits (gridInt a + gridInt b).natAbs) 127 with hlt | hge
    · simp [packOrNan_of_lt hlt, packBits_bits (hlt.trans (by decide)), hne, hS]
    · simp [F143.isNan_iff_bits.mp (packOrNan_isNan_iff.mpr hge), hS]

/-- Two negative numbers sum to zero only if both are zero. -/
theorem bits_eq_zero_of_sum_zero (hsa : a.sign = 1#1) (hsb : b.sign = 1#1) (hS : gridInt a + gridInt b = 0) :
    a.byte.toNat % 128 = 0 ∧ b.byte.toNat % 128 = 0 := by
  rw [gridInt_of_sign_one hsa, gridInt_of_sign_one hsb] at hS
  rw [← gridMag_eq_zero_iff, ← gridMag_eq_zero_iff]
  omega

theorem and_eq_one_iff {s t : BitVec 1} : s &&& t = 1#1 ↔ s = 1#1 ∧ t = 1#1 := by
  revert s t
  decide

theorem addF143_eq_negZero_iff (ha : a.isNan = false) (hb : b.isNan = false) :
    (addF143 cfg a b).byte = 0x80#8 ↔ a.byte = 0x80#8 ∧ b.byte = 0x80#8 := by
  constructor
  · rw [F143.negZero_byte_iff, addF143_bits_eq_zero_iff ha hb]
    rintro ⟨hs, hS⟩
    rw [addF143_of_sum_zero ha hb hS, packBits_sign, and_eq_one_iff] at hs
    obtain ⟨hsa, hsb⟩ := hs
    obtain ⟨hba, hbb⟩ := bits_eq_zero_of_sum_zero hsa hsb hS
    exact ⟨F143.negZero_byte_iff.mpr ⟨hsa, hba⟩, F143.negZero_byte_iff.mpr ⟨hsb, hbb⟩⟩
  · cases a
    cases b
    rintro ⟨rfl, rfl⟩
    rfl

theorem val143_add_eq_zero_iff {va vb : ℚ} (ha : val143 a = some va) (hb : val143 b = some vb) :
    va + vb = 0 ↔ gridInt a + gridInt b = 0 := by
  rw [val143_add_eq_grid ha hb, div_eq_zero_iff, Int.cast_eq_zero]
  norm_num

/-- Settles O39: the exact sum is zero exactly when the grid sum is, and no other sum rounds to a zero byte. -/
theorem zeroSumsAreExactZeros : Obligations.ZeroSumsAreExactZeros := by
  intro s a b va vb hva hvb
  have ha := (val143_eq_some_iff.mp hva).1
  have hb := (val143_eq_some_iff.mp hvb).1
  rw [val143_add_eq_zero_iff hva hvb]
  refine ⟨_, yields_f143Add_iff.mpr rfl, F143.zero_byte_iff.trans (addF143_bits_eq_zero_iff ha hb), fun hS => ?_,
    addF143_eq_negZero_iff ha hb⟩
  rw [addF143_of_sum_zero ha hb hS, packBits_sign]

/-- A number is nearest to itself. -/
theorem roundedBits_gridOfBits (n : Nat) : roundedBits (gridOfBits n) = n := by
  apply gridOfBits_strictMono.injective
  have hnear := (roundedBits_nearest (gridOfBits n) n).1
  simp only [gridDist] at hnear
  omega

theorem wire_decide_eq_one_iff {p : Prop} [Decidable p] : wire (decide p) = 1#1 ↔ p := by
  by_cases hp : p <;> simp [wire, hp]

/-- The sign bit of an integer that has the sign of `x`. -/
theorem wire_neg_eq_sign {x : F143} {S : ℤ} (hpos : x.sign = 0#1 → ¬S < 0) (hneg : x.sign = 1#1 → S < 0) :
    wire (decide (S < 0)) = x.sign := by
  rcases BitVec.eq_zero_or_eq_one x.sign with hs | hs
  · simp [wire, hpos hs, hs]
  · simp [wire, hneg hs, hs]

theorem wire_gridInt_neg {x : F143} (hx : gridMag x ≠ 0) : wire (decide (gridInt x < 0)) = x.sign := by
  refine wire_neg_eq_sign (fun hs => ?_) (fun hs => ?_)
  · rw [gridInt_of_sign_zero hs]
    omega
  · rw [gridInt_of_sign_one hs]
    omega

/-- Packing the grid integer of a nonzero number gives the number back. -/
theorem packGrid_gridInt {x : F143} (hn : x.isNan = false) (hx : gridMag x ≠ 0) : packGrid cfg (gridInt x) = x := by
  rw [packGrid_eq, wire_gridInt_neg hx, natAbs_gridInt, gridMag_eq_gridOfBits, roundedBits_gridOfBits,
    packOrNan_of_lt (F143.bits_lt_of_not_isNan hn), packBits_sign_bits]

/-- Adding a zero of either sign to a number that is not 0x80 gives the number back. -/
theorem addF143_zero_right {v z : F143} (hv : v.isNan = false) (hne : v.byte ≠ 0x80#8)
    (hz : z.byte = 0x00#8 ∨ z.byte = 0x80#8) : addF143 cfg v z = v := by
  have hz0 : gridMag z = 0 := gridMag_eq_zero_iff.mpr (F143.zero_byte_iff.mp hz)
  have hzn : z.isNan = false := by
    rw [← Bool.not_eq_true, F143.isNan_iff_bits, F143.zero_byte_iff.mp hz]
    decide
  have hsum : gridInt v + gridInt z = gridInt v := by
    rw [Int.natAbs_eq_zero.mp ((natAbs_gridInt z).trans hz0), add_zero]
  by_cases hv0 : gridMag v = 0
  · have hvs : v.sign = 0#1 := by
      refine (BitVec.eq_zero_or_eq_one v.sign).resolve_right fun hs => hne ?_
      exact F143.negZero_byte_iff.mpr ⟨hs, gridMag_eq_zero_iff.mp hv0⟩
    have hS : gridInt v + gridInt z = 0 := hsum.trans (by simp [gridInt_of_sign_zero hvs, hv0])
    rw [addF143_of_sum_zero hv hzn hS, hvs, BitVec.zero_and, ← hvs, ← gridMag_eq_zero_iff.mp hv0, packBits_sign_bits]
  · have hS : gridInt v + gridInt z ≠ 0 := by
      rw [hsum, ← Int.natAbs_ne_zero, natAbs_gridInt]
      exact hv0
    rw [addF143_of_not_isNan hv hzn, if_neg hS, hsum, packGrid_gridInt hv hv0]

/-- Settles O40: adding a zero leaves the grid integer, whose packing is the number; a zero sum is a zero with the and of
the signs. -/
theorem addingZeroGivesTheOtherOperand : Obligations.AddingZeroGivesTheOtherOperand := by
  refine ⟨fun s v hv hne => ?_, fun s => ⟨yields_f143Add_iff.mpr rfl, yields_f143Add_iff.mpr rfl⟩⟩
  have hpos := addF143_zero_right (cfg := s.cfg) (z := ⟨0x00#8⟩) hv hne (.inl rfl)
  have hneg := addF143_zero_right (cfg := s.cfg) (z := ⟨0x80#8⟩) hv hne (.inr rfl)
  simp only [yields_f143Add_iff, addF143_comm _ _ v, hpos, hneg, and_self]

end Machine

end Sys2Proof
end

section
/-! The sum against the exact sum (R74): nearest to it, NaN past 464, and 448 at 464. In units of `2^-9`, 448 is 229376
(bits 126), the unrepresentable 480 is 245760 (bits 127), and 464, half way, is 237568. -/

namespace Sys2Proof.Machine

variable {cfg : Config} {a b : F143} {va vb : ℚ}

theorem gridOfBits_126 : gridOfBits 126 = 229376 := rfl

theorem gridOfBits_127 : gridOfBits 127 = 245760 := rfl

/-- At the tie of 237568 units the even bits 126 are taken, so what rounds to a number is no larger. -/
theorem roundedBits_lt_iff (M : Nat) : roundedBits M < 127 ↔ M ≤ 237568 := by
  have hnear := roundedBits_nearest M
  obtain ⟨hmax, htie⟩ := hnear 126
  have hover := (hnear 127).1
  simp only [gridDist, gridOfBits_126, gridOfBits_127] at hmax htie hover
  constructor
  · intro hlt
    have hle : gridOfBits (roundedBits M) ≤ gridOfBits 126 := gridOfBits_strictMono.monotone (by omega)
    rw [gridOfBits_126] at hle
    omega
  · intro hM
    by_contra hge
    have hle : gridOfBits 127 ≤ gridOfBits (roundedBits M) := gridOfBits_strictMono.monotone (by omega)
    rw [gridOfBits_127] at hle
    have heq : gridOfBits (roundedBits M) = gridOfBits 127 := by
      rw [gridOfBits_127]
      omega
    have hbits := gridOfBits_strictMono.injective heq
    omega

/-- The byte of an exact zero sum (R81). -/
theorem packBits_and_zero_byte (s t : BitVec 1) :
    (packBits (s &&& t) 0).byte = if s = 1#1 ∧ t = 1#1 then 0x80#8 else 0x00#8 := by
  revert s t
  decide

theorem roundedBits_at_464 : roundedBits 237568 = 126 := by decide

theorem abs_grid_div (S : ℤ) : |(S : ℚ) / 512| = (S.natAbs : ℚ) / 512 := by
  rw [abs_div, Nat.cast_natAbs, Int.cast_abs, abs_of_pos (by norm_num : (0 : ℚ) < 512)]

theorem abs_val143 {x : F143} {q : ℚ} (h : val143 x = some q) : |q| = (gridOfBits (x.byte.toNat % 128) : ℚ) / 512 := by
  rw [val143_eq_gridInt h, abs_grid_div, natAbs_gridInt, gridMag_eq_gridOfBits]

theorem abs_val143_add (ha : val143 a = some va) (hb : val143 b = some vb) :
    |va + vb| = ((gridInt a + gridInt b).natAbs : ℚ) / 512 := by rw [val143_add_eq_grid ha hb, abs_grid_div]

/-- Distances between magnitudes are distances on the grid, in units of `2^-9`. -/
theorem abs_sub_eq_gridDist (n M : Nat) : |(gridOfBits n : ℚ) / 512 - (M : ℚ) / 512| = (gridDist n M : ℚ) / 512 := by
  rw [gridDist, ← abs_grid_div]
  push_cast
  rw [sub_div]

/-- No number's magnitude is nearer to `M` units than that of nearest bits, and these are even where another is as near. -/
theorem NearestBits.abs_sub_le {n M : Nat} (h : NearestBits n M) {c : F143} {vc : ℚ} (hc : val143 c = some vc) :
    |(gridOfBits n : ℚ) / 512 - (M : ℚ) / 512| ≤ |(|vc| - (M : ℚ) / 512)| ∧
      (|(|vc| - (M : ℚ) / 512)| = |(gridOfBits n : ℚ) / 512 - (M : ℚ) / 512| → |vc| ≠ (gridOfBits n : ℚ) / 512 →
        n % 2 = 0) := by
  obtain ⟨hle, htie⟩ := h (c.byte.toNat % 128)
  rw [abs_val143 hc, abs_sub_eq_gridDist, abs_sub_eq_gridDist]
  refine ⟨by gcongr, fun heq hne => htie ?_ fun hbits => hne (by rw [hbits])⟩
  rwa [div_left_inj' (by norm_num), Nat.cast_inj] at heq

/-- A nonzero sum of at most 464 is the sign of the grid sum in front of the rounded bits of its magnitude. -/
theorem addF143_of_le_464 (ha : a.isNan = false) (hb : b.isNan = false) (hS : gridInt a + gridInt b ≠ 0)
    (hM : (gridInt a + gridInt b).natAbs ≤ 237568) :
    addF143 cfg a b =
      packBits (wire (decide (gridInt a + gridInt b < 0))) (roundedBits (gridInt a + gridInt b).natAbs) := by
  rw [addF143_of_sum_ne_zero ha hb hS, packOrNan_of_lt ((roundedBits_lt_iff _).mpr hM)]

theorem addF143_of_past_464 (ha : a.isNan = false) (hb : b.isNan = false)
    (hM : 237568 < (gridInt a + gridInt b).natAbs) : addF143 cfg a b = canonNan cfg := by
  have hge := mt (roundedBits_lt_iff _).mp (not_le_of_gt hM)
  rw [addF143_of_sum_ne_zero ha hb (by omega), packOrNan_of_le (by omega)]

theorem abs_add_le_464_iff (ha : val143 a = some va) (hb : val143 b = some vb) :
    |va + vb| ≤ 464 ↔ (gridInt a + gridInt b).natAbs ≤ 237568 := by
  rw [abs_val143_add ha hb, div_le_iff₀ (by norm_num), ← Nat.cast_le (α := ℚ)]
  norm_num

theorem abs_add_eq_464_iff (ha : val143 a = some va) (hb : val143 b = some vb) :
    |va + vb| = 464 ↔ (gridInt a + gridInt b).natAbs = 237568 := by
  rw [abs_val143_add ha hb, div_eq_iff (by norm_num), ← Nat.cast_inj (R := ℚ)]
  norm_num

theorem val143_add_neg_iff (ha : val143 a = some va) (hb : val143 b = some vb) :
    va + vb < 0 ↔ gridInt a + gridInt b < 0 := by
  rw [val143_add_eq_grid ha hb, div_lt_iff₀ (by norm_num), zero_mul, Int.cast_lt_zero]

theorem abs_signFactor_mul_grid (s : BitVec 1) (n : Nat) :
    |signFactor s * ((gridOfBits n : ℚ) / 512)| = (gridOfBits n : ℚ) / 512 := by
  rw [abs_mul, abs_signFactor, one_mul, abs_of_nonneg (by positivity)]

/-- Settles O35: the exact sum is the grid sum, and the rounded bits of its magnitude are nearest to it. -/
theorem f143AddIsTheExactSumRoundedOnce : Obligations.F143AddIsTheExactSumRoundedOnce := by
  intro s a b va vb hva hvb
  have ha := (val143_eq_some_iff.mp hva).1
  have hb := (val143_eq_some_iff.mp hvb).1
  rw [Ne, val143_add_eq_zero_iff hva hvb, ← not_le, abs_add_le_464_iff hva hvb]
  refine ⟨_, yields_f143Add_iff.mpr rfl, fun hS => ?_, fun hM => ?_, fun hS hM => ?_⟩
  · rw [addF143_of_sum_zero ha hb hS]
    exact packBits_and_zero_byte a.sign b.sign
  · exact congrArg F143.byte (addF143_of_past_464 ha hb (not_le.mp hM))
  · have hn := (roundedBits_lt_iff _).mpr hM
    rw [addF143_of_le_464 ha hb hS hM, packBits_sign, wire_decide_eq_one_iff, val143_add_neg_iff hva hvb,
      abs_add_eq_464_iff hva hvb, abs_val143_add hva hvb]
    refine ⟨_, val143_packBits hn, Iff.rfl, ?_, fun c vc hvc => ?_⟩
    · intro h464
      rw [h464, roundedBits_at_464, abs_signFactor_mul_grid, gridOfBits_126]
      norm_num
    · obtain ⟨hle, heven⟩ := (roundedBits_nearest _).abs_sub_le hvc
      rw [abs_signFactor_mul_grid, packBits_byte_toNat (by omega)]
      refine ⟨hle, fun heq hne => ?_⟩
      have := heven heq hne
      omega

end Sys2Proof.Machine
end

section
/-! The document's datapath (R89). Operands are no further apart than 14 bits, so the shift right of the smaller drops
nothing, and the aligned sum is the grid sum's magnitude with `15 - E` bits appended, `E` that of the big operand. -/

namespace Sys2Proof

theorem F143.effExp_pos (x : F143) : 1 ≤ x.effExp := by
  unfold effExp
  split_ifs <;> omega

theorem F143.effExp_le (x : F143) : x.effExp ≤ 15 := by
  have := x.exp.isLt
  unfold effExp
  split_ifs <;> omega

theorem F143.sig_lt (x : F143) : x.sig < 16 := by
  have := x.mant.isLt
  unfold sig
  split_ifs <;> omega

/-- A number above the lowest exponent has its implicit bit. -/
theorem F143.sig_ge {x : F143} (h : 2 ≤ x.effExp) : 8 ≤ x.sig := by
  unfold effExp at h
  unfold sig
  split_ifs at h ⊢ <;> omega

namespace Machine

theorem gridMag_eq (x : F143) : gridMag x = x.sig * 2 ^ (x.effExp - 1) := Nat.shiftLeft_eq _ _

theorem bigFirst_iff {a b : F143} :
    bigFirst a b = true ↔ b.effExp < a.effExp ∨ (a.effExp = b.effExp ∧ b.sig ≤ a.sig) := by
  simp [bigFirst]

theorem bigFirst_of_not {a b : F143} (h : ¬bigFirst a b = true) : bigFirst b a = true := by
  rw [bigFirst_iff] at h ⊢
  omega

/-- The order of the datapath is an order of grid magnitudes. -/
theorem gridMag_le_of_bigFirst {a b : F143} (h : bigFirst a b = true) : gridMag b ≤ gridMag a := by
  rw [gridMag_eq, gridMag_eq]
  rcases bigFirst_iff.mp h with hE | ⟨hE, hsig⟩
  · have hb := b.effExp_pos
    calc b.sig * 2 ^ (b.effExp - 1) ≤ 2 ^ 4 * 2 ^ (b.effExp - 1) := by gcongr; exact b.sig_lt.le
      _ = 2 ^ 3 * 2 ^ b.effExp := by rw [← pow_add, ← pow_add]; congr 1; omega
      _ ≤ a.sig * 2 ^ (a.effExp - 1) := by
        gcongr
        · exact F143.sig_ge (by omega)
        · decide
        · omega
  · rw [hE]
    gcongr

/-- The big operand's significand, extended by 14 bits. -/
theorem extend_sig_eq (x : F143) : x.sig <<< 14 = gridMag x * 2 ^ (15 - x.effExp) := by
  have hpos := x.effExp_pos
  have hle := x.effExp_le
  rw [gridMag_eq, mul_assoc, ← pow_add, Nat.shiftLeft_eq]
  congr 2
  omega

/-- The small operand's, extended and shifted right by the exponent difference: no bit is lost. -/
theorem align_sig_eq {x : F143} {E : Nat} (hx : x.effExp ≤ E) (hE : E ≤ 15) :
    (x.sig <<< 14) >>> (E - x.effExp) = gridMag x * 2 ^ (15 - E) := by
  have hsplit : 15 - x.effExp = 15 - E + (E - x.effExp) := by omega
  rw [extend_sig_eq, hsplit, pow_add, ← mul_assoc, ← Nat.shiftLeft_eq _ (E - x.effExp), Nat.shiftLeft_shiftRight]

/-- The magnitude of a grid sum, the larger operand first. -/
theorem natAbs_gridInt_add {a b : F143} (h : gridMag b ≤ gridMag a) :
    (gridInt a + gridInt b).natAbs = if a.sign = b.sign then gridMag a + gridMag b else gridMag a - gridMag b := by
  rcases BitVec.eq_zero_or_eq_one a.sign with ha | ha <;> rcases BitVec.eq_zero_or_eq_one b.sign with hb | hb
  · rw [gridInt_of_sign_zero ha, gridInt_of_sign_zero hb, ha, hb, if_pos rfl]
    omega
  · rw [gridInt_of_sign_zero ha, gridInt_of_sign_one hb, ha, hb, if_neg (by decide)]
    omega
  · rw [gridInt_of_sign_one ha, gridInt_of_sign_zero hb, ha, hb, if_neg (by decide)]
    omega
  · rw [gridInt_of_sign_one ha, gridInt_of_sign_one hb, ha, hb, if_pos rfl]
    omega

/-- A nonzero grid sum has the sign of the larger operand. -/
theorem wire_sum_neg {a b : F143} (h : gridMag b ≤ gridMag a) (hS : gridInt a + gridInt b ≠ 0) :
    wire (decide (gridInt a + gridInt b < 0)) = a.sign := by
  have hb := natAbs_gridInt b
  refine wire_neg_eq_sign (fun hs => ?_) (fun hs => ?_)
  · rw [gridInt_of_sign_zero hs]
    omega
  · rw [gridInt_of_sign_one hs] at hS ⊢
    omega

/-- The aligned sum `W` of R89. -/
theorem alignedSum_eq {a b : F143} (h : bigFirst a b = true) :
    (if a.sign = b.sign then a.sig <<< 14 + (b.sig <<< 14) >>> (a.effExp - b.effExp)
      else a.sig <<< 14 - (b.sig <<< 14) >>> (a.effExp - b.effExp)) =
      (gridInt a + gridInt b).natAbs * 2 ^ (15 - a.effExp) := by
  have hE : b.effExp ≤ a.effExp := by
    have := bigFirst_iff.mp h
    omega
  rw [align_sig_eq hE a.effExp_le, extend_sig_eq, natAbs_gridInt_add (gridMag_le_of_bigFirst h), ← add_mul,
    ← Nat.sub_mul, ← ite_mul]

theorem log2_mul_two_pow {M : Nat} (hM : M ≠ 0) (t : Nat) : (M * 2 ^ t).log2 = M.log2 + t := by
  have ht := Nat.two_pow_pos t
  rw [Nat.log2_eq_iff (by positivity), add_right_comm, pow_add, pow_add]
  exact ⟨Nat.mul_le_mul_right _ (Nat.log2_self_le hM), Nat.mul_lt_mul_of_pos_right Nat.lt_log2_self ht⟩

/-- Bits appended to a magnitude do not change how it is rounded. -/
theorem roundNormal_mul_two_pow (cfg : Config) (s : BitVec 1) (er t : Nat) {M : Nat} (hM : 8 ≤ M) :
    roundNormal cfg s er (M * 2 ^ t) (M.log2 + t) = roundNormal cfg s er M M.log2 := by
  have hp : 3 ≤ M.log2 := (Nat.le_log2 (by omega)).mpr hM
  obtain ⟨hq, hq'⟩ := quotient_bounds hM
  have hsh : M.log2 + t - 3 = M.log2 - 3 + t := by omega
  have hquot : M * 2 ^ t / 2 ^ (M.log2 + t - 3) = M / 2 ^ (M.log2 - 3) := by
    rw [hsh, pow_add, Nat.mul_div_mul_right _ _ (Nat.two_pow_pos t)]
  rw [roundNormal_eq cfg s er (hquot ▸ hq) (hquot ▸ hq'), roundNormal_eq cfg s er hq hq', hsh,
    roundedQuotient_mul_two_pow]

/-- The datapath after alignment gives the packed grid sum. -/
theorem addAligned_eq {cfg : Config} {a b : F143} (h : bigFirst a b = true) (z : BitVec 1) :
    addAligned cfg a b z =
      if gridInt a + gridInt b = 0 then packBits z 0 else packGrid cfg (gridInt a + gridInt b) := by
  have ht := Nat.two_pow_pos (15 - a.effExp)
  have hE := a.effExp_le
  simp only [addAligned, alignedSum_eq h, Nat.mul_eq_zero, ht.ne', or_false, Int.natAbs_eq_zero]
  by_cases hS : gridInt a + gridInt b = 0
  · rw [if_pos hS, if_pos hS, packZero_eq]
  · have hlog := log2_mul_two_pow (Int.natAbs_ne_zero.mpr hS) (15 - a.effExp)
    have hsign := wire_sum_neg (gridMag_le_of_bigFirst h) hS
    rw [if_neg hS, if_neg hS, hlog]
    rcases Nat.lt_or_ge (gridInt a + gridInt b).natAbs 8 with hM | hM
    · have hp := (log2_le_two_iff _).mpr hM
      rw [if_neg (by omega), packGrid_of_lt cfg hM, hsign, ← Nat.shiftLeft_eq, Nat.shiftLeft_shiftRight]
    · have hp := mt (log2_le_two_iff _).mp (not_lt_of_ge hM)
      rw [if_pos (by omega), packGrid_of_le cfg hM, hsign, roundNormal_mul_two_pow cfg _ _ _ hM]
      congr 1
      omega

/-- The document's datapath is the grid algorithm. -/
theorem addF143ByExponent_eq (cfg : Config) (a b : F143) : addF143ByExponent cfg a b = addF143 cfg a b := by
  unfold addF143ByExponent
  split_ifs with hnan hbig
  · exact (addF143_of_isNan (Bool.or_eq_true_iff.mp hnan)).symm
  · obtain ⟨ha, hb⟩ : a.isNan = false ∧ b.isNan = false := by simpa using hnan
    rw [addF143_of_not_isNan ha hb, addAligned_eq hbig]
  · obtain ⟨ha, hb⟩ : a.isNan = false ∧ b.isNan = false := by simpa using hnan
    rw [addF143_of_not_isNan ha hb, addAligned_eq (bigFirst_of_not hbig), add_comm]

/-- Settles O36: in either order of the operands the aligned sum is the grid sum's magnitude, rounded alike. -/
theorem theDocumentsDatapathGivesTheSameSum : Obligations.TheDocumentsDatapathGivesTheSameSum := fun s a b =>
  yields_f143Add_iff.mpr (addF143ByExponent_eq s.cfg a b)

end Machine

end Sys2Proof
end

section
/-! The decoder by operand counts (R48): bytes are read one for one, and a line of literals is read as its bytes. -/

namespace Sys2Proof

/-- Exactly lists of `n` bytes decode; shorter and longer ones are rejected by name. -/
def AcceptsExactly (n : Nat) (dec : List Byte → Except Rejection Instr) : Prop :=
  ∀ bytes : List Byte,
    (bytes.length = n → ∃ i, dec bytes = .ok i) ∧
    (bytes.length < n → dec bytes = .error .tooFewOperands) ∧
    (n < bytes.length → dec bytes = .error .tooManyOperands)

theorem decodeNullary_acceptsExactly (i : Instr) : AcceptsExactly 0 (decodeNullary i)
  | [] => by simp [decodeNullary]
  | _ :: _ => by simp [decodeNullary]

theorem decodeUnary_acceptsExactly (f : Byte → Instr) : AcceptsExactly 1 (decodeUnary f)
  | [] => by simp [decodeUnary]
  | [_] => by simp [decodeUnary]
  | _ :: _ :: _ => by simp [decodeUnary]

theorem decodeBinary_acceptsExactly (f : Byte → Byte → Instr) : AcceptsExactly 2 (decodeBinary f)
  | [] => by simp [decodeBinary]
  | [_] => by simp [decodeBinary]
  | [_, _] => by simp [decodeBinary]
  | _ :: _ :: _ :: _ => by simp [decodeBinary]

theorem decode_acceptsExactly (op : Op) : AcceptsExactly op.inputs.length (decode op) := by
  cases op with
  | f143Zero | f143NegZero | f143Nan => exact decodeNullary_acceptsExactly _
  | f143Add => exact decodeBinary_acceptsExactly _
  | _ => exact decodeUnary_acceptsExactly _

/-- Settles O2: an operation reads none, one or two bytes, and its reader accepts exactly that many. -/
theorem decodeRejectsExactlyWrongOperandCounts : Obligations.DecodeRejectsExactlyWrongOperandCounts :=
  decode_acceptsExactly

theorem length_of_decode {op : Op} {bytes : List Byte} {i : Instr} (h : decode op bytes = .ok i) :
    bytes.length = op.inputs.length := by
  obtain ⟨-, hfew, hmany⟩ := decode_acceptsExactly op bytes
  by_contra hne
  rcases Nat.lt_or_gt_of_ne hne with hlt | hgt
  · simp [hfew hlt] at h
  · simp [hmany hgt] at h

theorem decodeNullary_eq_ok {i j : Instr} {bytes : List Byte} (h : decodeNullary i bytes = .ok j) :
    bytes = [] ∧ i = j := by
  match bytes with
  | [] => exact ⟨rfl, Except.ok.inj h⟩

theorem decodeUnary_eq_ok {f : Byte → Instr} {i : Instr} {bytes : List Byte} (h : decodeUnary f bytes = .ok i) :
    ∃ x, bytes = [x] ∧ f x = i := by
  match bytes with
  | [x] => exact ⟨x, rfl, Except.ok.inj h⟩

theorem decodeBinary_eq_ok {f : Byte → Byte → Instr} {i : Instr} {bytes : List Byte}
    (h : decodeBinary f bytes = .ok i) : ∃ a b, bytes = [a, b] ∧ f a b = i := by
  match bytes with
  | [a, b] => exact ⟨a, b, rfl, Except.ok.inj h⟩

/-- What decodes to a transaction is its encoding. -/
theorem encode_of_decode {op : Op} {bytes : List Byte} {i : Instr} (h : decode op bytes = .ok i) :
    encode i = (op, bytes) := by
  cases op with
  | f143Zero | f143NegZero | f143Nan =>
    obtain ⟨rfl, rfl⟩ := decodeNullary_eq_ok h
    rfl
  | f143Add =>
    obtain ⟨a, b, rfl, rfl⟩ := decodeBinary_eq_ok h
    rfl
  | _ =>
    obtain ⟨x, rfl, rfl⟩ := decodeUnary_eq_ok h
    rfl

theorem op_of_decode {op : Op} {bytes : List Byte} {i : Instr} (h : decode op bytes = .ok i) : i.op = op :=
  congrArg Prod.fst (encode_of_decode h)

theorem decode_encode (i : Instr) : decode i.op i.bytes = .ok i := by
  cases i <;> rfl

namespace Machine

/-- A line of literals is read as the transaction its bytes decode to, whatever results are bound. -/
theorem readLine_literals (results : List Value) {op : Op} {bytes : List Byte} {i : Instr}
    (h : decode op bytes = .ok i) : readLine results ⟨op, bytes.map .lit⟩ = .ok i := by
  have hlen := length_of_decode h
  have hargs : resolveArgs results op.inputs (bytes.map .lit) = .ok bytes := by
    refine resolveArgs_eq_ok (by simpa using hlen) hlen fun n fmt o b _ ho hb => ?_
    rw [List.getElem?_map, hb] at ho
    obtain rfl : Operand.lit b = o := Option.some.inj ho
    rfl
  simp [readLine, hargs, h]

/-- Settles O1: the reader of an operation rebuilds the transaction from its bytes, and no other operation or bytes
build it. -/
theorem decodeOfEncodeIsTheInstruction : Obligations.DecodeOfEncodeIsTheInstruction :=
  ⟨decode_encode, fun i results => readLine_literals results (decode_encode i), fun _ _ _ => encode_of_decode⟩

/-- Settles O3: the five words, each at the operation its selection names. -/
theorem wordsOfTheSpecDecode : Obligations.WordsOfTheSpecDecode := ⟨rfl, rfl, rfl, rfl, rfl⟩

end Machine

end Sys2Proof
end

section
/-! What a step does with the first line of the script: it runs the transaction the line is read as, or refuses the line
(R52, R131). -/

namespace Sys2Proof

theorem eq_map_lit_of_literalBytes {os : List Operand} {bytes : List Byte} (h : literalBytes os = some bytes) :
    os = bytes.map .lit := by
  induction os generalizing bytes with
  | nil =>
    obtain rfl := Option.some.inj h
    rfl
  | cons o os ih =>
    cases o with
    | name k => cases h
    | lit b =>
      obtain ⟨bs, hbs, rfl⟩ := Option.map_eq_some_iff.mp h
      rw [ih hbs, List.map_cons]

/-- The line of a table word is a line of literals that decode to what the decoder reads from the word. -/
theorem tableLine_of_decodeTableWord {nbits w : Nat} {i : Instr} (h : decodeTableWord nbits w = some i) :
    ∃ bytes : List Byte, (tableLine nbits w).args = bytes.map .lit ∧ decode (tableLine nbits w).op bytes = .ok i := by
  unfold decodeTableWord at h
  split at h
  · cases h
  · next bytes hbytes =>
    refine ⟨bytes, eq_map_lit_of_literalBytes hbytes, ?_⟩
    split at h
    · next hi => rw [hi, Option.some.inj h]
    · cases h

namespace Machine

variable {s : State} {l : Line} {rest : List Line}

theorem step_of_readLine_ok {i : Instr} (hs : s.script = l :: rest) (hr : readLine s.results l = .ok i) :
    step s = exec i { s with script := rest } := by
  simp [step, hs, hr, State.dropLine]

theorem step_of_readLine_error {r : Refusal} (hs : s.script = l :: rest) (hr : readLine s.results l = .error r) :
    step s = .refused r := by
  simp [step, hs, hr]

/-- Settles O6: a line of literals is read as the transaction its bytes decode to. -/
theorem stepRunsTheDecodedLine : Obligations.StepRunsTheDecodedLine := fun s _ _ _ _ hd hs =>
  step_of_readLine_ok hs (readLine_literals s.results hd)

/-- Settles O5: the table word's line is one of literals, put in front of the script and taken off again. -/
theorem tableWordsRunTheirInstruction : Obligations.TableWordsRunTheirInstruction := by
  intro s nbits w i h
  obtain ⟨bytes, hargs, hd⟩ := tableLine_of_decodeTableWord h
  have hr := readLine_literals s.results hd
  rw [← hargs] at hr
  exact step_of_readLine_ok (s := s.withFetchWord nbits w) rfl hr

/-- Settles O7: operands that stand for bytes are read as these bytes. -/
theorem stepPassesNamedResults : Obligations.StepPassesNamedResults := by
  intro s rest op args bytes i hlen hstand hd hs
  have hargs := resolveArgs_eq_ok hlen (length_of_decode hd) hstand
  exact step_of_readLine_ok hs (by simp [readLine, hargs, hd])

/-- Settles O8: with no line left `step` answers its argument. -/
theorem stepAfterTheLastLineChangesNothing : Obligations.StepAfterTheLastLineChangesNothing := fun s hs => by
  simp [step, hs]

/-- A line is refused for its first operand that is refused. -/
theorem step_refused_of_operand {n : Nat} {fmt : Format} {o : Operand} {r : Refusal} (hs : s.script = l :: rest)
    (hf : l.op.inputs[n]? = some fmt) (ho : l.args[n]? = some o) (hr : resolveOperand s.results fmt o = .error r)
    (hbefore : operandsStandBefore n s.results l) : step s = .refused r :=
  step_of_readLine_error hs (by simp [readLine, resolveArgs_eq_error hf ho hr hbefore])

theorem byteAs_eq_none {fmt : Format} {v : Value} (h : v.format ≠ some fmt) : v.byteAs fmt = none := by
  rwa [Ne, ← byteAs_isSome_iff, Bool.not_eq_true, Option.isSome_eq_false_iff, Option.isNone_iff_eq_none] at h

/-- Settles O10: a misused name is refused where it is read, and it is the first operand refused. -/
theorem misusedNamesAreRefused : Obligations.MisusedNamesAreRefused := by
  refine ⟨fun s rest l n fmt k hf ho hk hbefore hs => ?_, fun s rest l n fmt k v hf ho hk hv hbefore hs => ?_⟩
  · exact step_refused_of_operand hs hf ho (by simp [resolveOperand, hk]) hbefore
  · exact step_refused_of_operand hs hf ho (by simp [resolveOperand, hk, byteAs_eq_none hv]) hbefore

end Machine

end Sys2Proof
end

section
/-! A line passes the check exactly when it is read as a transaction, so a script that passes runs to its end. -/

namespace Sys2Proof.Machine

theorem fits_iff {results : List Value} {fmt : Format} {o : Operand} :
    o.fits (results.map Value.format) fmt = true ↔ ∃ b, resolveOperand results fmt o = .ok b := by
  cases o with
  | lit b => simp [Operand.fits]
  | name k =>
    cases hk : results[k]? with
    | none => simp [Operand.fits, resolveOperand, hk]
    | some v =>
      simp only [Operand.fits, resolveOperand, List.getElem?_map, hk, Option.map_some, beq_iff_eq, Option.some.injEq,
        ← byteAs_isSome_iff]
      cases v.byteAs fmt <;> simp

theorem argsFit_iff {results : List Value} {fmts : List Format} {os : List Operand} :
    argsFit (results.map Value.format) fmts os = true ↔ ∃ bs, resolveArgs results fmts os = .ok bs := by
  induction fmts generalizing os with
  | nil => cases os <;> simp [argsFit, resolveArgs]
  | cons fmt fmts ih =>
    cases os with
    | nil => simp [argsFit, resolveArgs]
    | cons o os =>
      rw [argsFit, Bool.and_eq_true, fits_iff, ih, resolveArgs]
      cases resolveOperand results fmt o with
      | error r => simp
      | ok b => cases resolveArgs results fmts os <;> simp

/-- The check on a line, against the formats of the results bound, is that it can be read. -/
theorem wellFormed_iff {results : List Value} {l : Line} :
    l.wellFormed (results.map Value.format) = true ↔ ∃ i, readLine results l = .ok i := by
  rw [Line.wellFormed, argsFit_iff, readLine]
  cases hargs : resolveArgs results l.op.inputs l.args with
  | error r => simp
  | ok bs =>
    obtain ⟨i, hi⟩ := (decode_acceptsExactly l.op bs).1 (length_of_resolveArgs hargs)
    simp [hi]

theorem op_of_readLine {results : List Value} {l : Line} {i : Instr} (h : readLine results l = .ok i) :
    i.op = l.op := by
  unfold readLine at h
  split at h
  · cases h
  · split at h
    · cases h
    · next hd => exact op_of_decode (Except.ok.inj h ▸ hd)

/-- Settles O9: the check is that the line can be read, and a step runs what is read and refuses what is not. -/
theorem stepRunsExactlyWellFormedLines : Obligations.StepRunsExactlyWellFormedLines := by
  intro s l rest hs
  rw [← Bool.not_eq_true, State.known, wellFormed_iff]
  cases hr : readLine s.results l with
  | ok i => simp [step_of_readLine_ok hs hr, exec_eq_next]
  | error r => simp [step_of_readLine_error hs hr]

/-- A step of a script that passes the check takes off its first line, binds one result of that line's format, keeps
the build, and leaves a script that passes the check. -/
theorem step_of_runnable {s : State} {l : Line} {rest : List Line} (hs : s.script = l :: rest) (h : s.runnable) :
    ∃ t v, step s = .next t ∧ t.script = rest ∧ t.cfg = s.cfg ∧ t.results = s.results ++ [v] ∧
      v.format = l.op.resultFormat ∧ t.runnable := by
  rw [State.runnable, hs, scriptWellFormed, Bool.and_eq_true] at h
  obtain ⟨hl, hrest⟩ := h
  obtain ⟨i, hr⟩ := wellFormed_iff.mp hl
  have hfmt : (valueOf s.cfg i).format = l.op.resultFormat := by rw [valueOf_format, op_of_readLine hr]
  refine ⟨_, valueOf s.cfg i, (step_of_readLine_ok hs hr).trans (exec_eq_next _ _), by simp, by simp, by simp, hfmt, ?_⟩
  simpa [State.runnable, State.known, hfmt] using hrest

/-- Settles O11: the check of the remaining lines is made against the format of the result the first line binds. -/
theorem runnableStatesStepToRunnableStates : Obligations.RunnableStatesStepToRunnableStates := by
  intro s h
  cases hs : s.script with
  | nil => exact ⟨s, stepAfterTheLastLineChangesNothing s hs, h⟩
  | cons l rest =>
    obtain ⟨t, v, hstep, -, -, -, -, ht⟩ := step_of_runnable hs h
    exact ⟨t, hstep, ht⟩

theorem run_succ_of_step {s t : State} (h : step s = .next t) (k : Nat) :
    Host.Core.run core (k + 1) s = Host.Core.run core k t := by
  have : core.step s = .next t := h
  simp [Host.Core.run, this]

/-- Settles O12, by induction on the remaining lines. -/
theorem runnableScriptsRunToTheirEnd : Obligations.RunnableScriptsRunToTheirEnd := by
  intro s h
  generalize hls : s.script = ls
  induction ls generalizing s with
  | nil => exact ⟨s, [], rfl, hls, rfl, by simp, rfl⟩
  | cons l rest ih =>
    obtain ⟨t, v, hstep, hscript, hcfg, hresults, hfmt, ht⟩ := step_of_runnable hls h
    obtain ⟨u, vs, hrun, hend, hcfg', hresults', hfmts⟩ := ih t ht hscript
    refine ⟨u, v :: vs, ?_, hend, hcfg'.trans hcfg, by simp [hresults', hresults], by simp [hfmt, hfmts]⟩
    rw [List.length_cons, run_succ_of_step hstep, hrun]

/-- Settles O13: the empty script passes the check, and the build is the default one. -/
theorem resetIsRunnableWithTheDefaultBuild : Obligations.ResetIsRunnableWithTheDefaultBuild :=
  ⟨rfl, rfl, rfl, rfl, rfl⟩

/-- Settles O14: neither driving a port nor binding a result touches the build. -/
theorem buildParametersNeverChange : Obligations.BuildParametersNeverChange := by
  intro s t h
  rcases step_next h with ⟨-, rfl⟩ | ⟨l, rest, i, -, -, rfl⟩
  · rfl
  · simp

/-- Settles O15: a result is bound behind the earlier ones, for the line taken off. -/
theorem boundResultsNeverChange : Obligations.BoundResultsNeverChange := by
  intro s t h
  rcases step_next h with ⟨hs, rfl⟩ | ⟨l, rest, i, hs, -, rfl⟩
  · simp [hs]
  · refine ⟨fun k v hv => ?_, by simp [hs]; omega, by simp⟩
    simp [List.getElem?_append_left (List.getElem?_eq_some_iff.mp hv).1, hv]

end Sys2Proof.Machine
end

section
/-! What a transaction reads and what it leaves unchanged (R15, R31, R126): results depend on operands and build, and a
port changes only when it is driven. -/

namespace Sys2Proof.Machine

variable {i : Instr} {s t : State}

theorem exec_cfg (h : exec i s = .next t) : t.cfg = s.cfg := by simp [eq_of_exec h]

theorem exec_script (h : exec i s = .next t) : t.script = s.script := by simp [eq_of_exec h]

theorem exec_results (h : exec i s = .next t) : t.results = s.results ++ [valueOf s.cfg i] := by simp [eq_of_exec h]

/-- Settles O17: what is bound is a function of the build and the operands, and what stands on a unit's outputs of the
build and the unit's ports. -/
theorem resultDependsOnlyOnOperandsAndBuild : Obligations.ResultDependsOnlyOnOperandsAndBuild := by
  refine ⟨fun i s₁ s₂ v hcfg h => ?_, fun i s t h hx => ?_, fun i s t h hx => ?_, fun i s t h ha hb => ?_⟩
  · rwa [yields_iff, ← hcfg, ← yields_iff]
  · rw [State.dec143Out, exec_cfg h, hx, ← State.dec143Out]
  · rw [State.dec152Out, exec_cfg h, hx, ← State.dec152Out]
  · rw [State.add143Sum, exec_cfg h, ha, hb, ← State.add143Sum]

/-- Settles O18: each transaction leaves the build as it is, and the other's result depends on nothing else. -/
theorem transactionsDoNotInteract : Obligations.TransactionsDoNotInteract := by
  intro i j s t₁ t₂ u₁ u₂ hi hij hj hji
  exact ⟨valueOf s.cfg i, valueOf s.cfg j, by simp [exec_results hij, exec_results hi, exec_cfg hi],
    by simp [exec_results hji, exec_results hj, exec_cfg hj]⟩

/-! ### The ports a transaction drives (R48, R54) -/

theorem driven_dec143X (hport : ∀ r, i ≠ .f143FromByte .dec143X r)
    (hread : ∀ x, i ∉ [.f143Sign x, .f143Exp x, .f143Mant x, .f143IsSubnormal x, .f143IsZero x, .f143IsNegZero x,
      .f143IsNan x, .f143Decode x]) : (driven i s).dec143X = s.dec143X := by
  cases i with
  | f143FromByte port r => cases port with
    | dec143X => exact absurd rfl (hport r)
    | add143A | add143B => rfl
  | f143Sign x | f143Exp x | f143Mant x | f143IsSubnormal x | f143IsZero x | f143IsNegZero x | f143IsNan x
  | f143Decode x => exact absurd (by simp) (hread x)
  | _ => rfl

theorem driven_dec152X (hport : ∀ r, i ≠ .f152FromByte r)
    (hread : ∀ x, i ∉ [.f152Sign x, .f152Exp x, .f152Mant x, .f152IsSubnormal x, .f152IsZero x, .f152IsNegZero x,
      .f152IsNan x, .f152Decode x]) : (driven i s).dec152X = s.dec152X := by
  cases i with
  | f143FromByte port r => exact State.driveF143_dec152X s ⟨r⟩ port
  | f152FromByte r => exact absurd rfl (hport r)
  | f152Sign x | f152Exp x | f152Mant x | f152IsSubnormal x | f152IsZero x | f152IsNegZero x | f152IsNan x
  | f152Decode x => exact absurd (by simp) (hread x)
  | _ => rfl

theorem driven_add143A (hport : ∀ r, i ≠ .f143FromByte .add143A r) (hadd : ∀ a b, i ≠ .f143Add a b) :
    (driven i s).add143A = s.add143A := by
  cases i with
  | f143FromByte port r => cases port with
    | add143A => exact absurd rfl (hport r)
    | dec143X | add143B => rfl
  | f143Add a b => exact absurd rfl (hadd a b)
  | _ => rfl

theorem driven_add143B (hport : ∀ r, i ≠ .f143FromByte .add143B r) (hadd : ∀ a b, i ≠ .f143Add a b) :
    (driven i s).add143B = s.add143B := by
  cases i with
  | f143FromByte port r => cases port with
    | add143B => exact absurd rfl (hport r)
    | dec143X | add143A => rfl
  | f143Add a b => exact absurd rfl (hadd a b)
  | _ => rfl

/-- Settles O19: binding a result touches no port, and a port is driven only by the operations that name it. -/
theorem frameOfEveryOperation : Obligations.FrameOfEveryOperation := by
  intro i s t h
  refine ⟨exec_cfg h, exec_script h, ⟨_, exec_results h⟩, ?_⟩
  obtain rfl := eq_of_exec h
  exact ⟨driven_dec143X, driven_dec152X, driven_add143A, driven_add143B⟩

/-! ### Standing outputs (R44 to R46, R126) -/

theorem dec143Out_of_fromByte {r : Byte} (h : exec (.f143FromByte .dec143X r) s = .next t) :
    t.dec143Out = dec143 s.cfg ⟨r⟩ := by
  obtain rfl := eq_of_exec h
  rfl

theorem dec152Out_of_fromByte {r : Byte} (h : exec (.f152FromByte r) s = .next t) :
    t.dec152Out = dec152 s.cfg ⟨r⟩ := by
  obtain rfl := eq_of_exec h
  rfl

/-- Either byte still stands on its port when the other is driven. -/
theorem add143Sum_of_fromByte {t₁ t₂ : State} {a b : Byte}
    (h : (exec (.f143FromByte .add143A a) s = .next t₁ ∧ exec (.f143FromByte .add143B b) t₁ = .next t₂) ∨
      (exec (.f143FromByte .add143B b) s = .next t₁ ∧ exec (.f143FromByte .add143A a) t₁ = .next t₂)) :
    t₂.add143Sum = addF143 s.cfg ⟨a⟩ ⟨b⟩ := by
  rcases h with ⟨h₁, h₂⟩ | ⟨h₁, h₂⟩
  · obtain rfl := eq_of_exec h₁
    obtain rfl := eq_of_exec h₂
    rfl
  · obtain rfl := eq_of_exec h₁
    obtain rfl := eq_of_exec h₂
    rfl

/-- Settles O20: a driven port shows the unit's outputs of the byte, and each operation binds one of these. -/
theorem drivenPortsShowEveryOutput : Obligations.DrivenPortsShowEveryOutput := by
  refine ⟨fun s t r h => ?_, fun s t r h => ?_, fun s t₁ t₂ a b h => ?_⟩
  · simp [yields_iff, valueOf, dec143Out_of_fromByte h, dec143]
  · simp [yields_iff, valueOf, dec152Out_of_fromByte h, dec152]
  · rw [yields_f143Add_iff, add143Sum_of_fromByte h]

end Sys2Proof.Machine
end

section
/-! Results of construction, the constants, fields and predicates (R54 to R64, R93 to R100), in arithmetic on the byte
read as an unsigned number. -/

namespace Sys2Proof

theorem F143.sign_eq_ofNat (x : F143) : x.sign = BitVec.ofNat 1 (x.byte.toNat / 128) := by
  rw [← x.sign_toNat, BitVec.ofNat_toNat, BitVec.setWidth_eq]

theorem F143.exp_eq_ofNat (x : F143) : x.exp = BitVec.ofNat 4 (x.byte.toNat / 8 % 16) := by
  rw [← x.exp_toNat, BitVec.ofNat_toNat, BitVec.setWidth_eq]

theorem F143.mant_eq_ofNat (x : F143) : x.mant = BitVec.ofNat 3 (x.byte.toNat % 8) := by
  rw [← x.mant_toNat, BitVec.ofNat_toNat, BitVec.setWidth_eq]

theorem F152.sign_eq_ofNat (x : F152) : x.sign = BitVec.ofNat 1 (x.byte.toNat / 128) := by
  rw [← x.sign_toNat, BitVec.ofNat_toNat, BitVec.setWidth_eq]

theorem F152.exp_eq_ofNat (x : F152) : x.exp = BitVec.ofNat 5 (x.byte.toNat / 4 % 32) := by
  rw [← x.exp_toNat, BitVec.ofNat_toNat, BitVec.setWidth_eq]

theorem F152.mant_eq_ofNat (x : F152) : x.mant = BitVec.ofNat 2 (x.byte.toNat % 4) := by
  rw [← x.mant_toNat, BitVec.ofNat_toNat, BitVec.setWidth_eq]

theorem F143.isSubnormal_iff {x : F143} :
    x.isSubnormal = true ↔ x.byte.toNat / 8 % 16 = 0 ∧ x.byte.toNat % 8 ≠ 0 := by
  simp [isSubnormal, ← BitVec.toNat_inj, x.exp_toNat, x.mant_toNat]

theorem F143.isZero_iff {x : F143} : x.isZero = true ↔ x.byte.toNat = 0 := by
  simp [isZero, ← BitVec.toNat_inj]

theorem F143.isNegZero_iff {x : F143} : x.isNegZero = true ↔ x.byte.toNat = 128 := by
  simp [isNegZero, ← BitVec.toNat_inj]

theorem F143.isNan_iff_fields {x : F143} :
    x.isNan = true ↔ x.byte.toNat / 8 % 16 = 15 ∧ x.byte.toNat % 8 = 7 := by
  simp [isNan, ← BitVec.toNat_inj, x.exp_toNat, x.mant_toNat]

theorem F152.isSubnormal_iff {x : F152} :
    x.isSubnormal = true ↔ x.byte.toNat / 4 % 32 = 0 ∧ x.byte.toNat % 4 ≠ 0 := by
  simp [isSubnormal, ← BitVec.toNat_inj, x.exp_toNat, x.mant_toNat]

theorem F152.isZero_iff {x : F152} : x.isZero = true ↔ x.byte.toNat = 0 := by
  simp [isZero, ← BitVec.toNat_inj]

theorem F152.isNegZero_iff {x : F152} : x.isNegZero = true ↔ x.byte.toNat = 128 := by
  simp [isNegZero, ← BitVec.toNat_inj]

theorem F152.isNan_iff_fields {x : F152} :
    x.isNan = true ↔ x.byte.toNat / 4 % 32 = 31 ∧ x.byte.toNat % 4 = 3 := by
  simp [isNan, ← BitVec.toNat_inj, x.exp_toNat, x.mant_toNat]

namespace Machine

/-- A predicate's wire, by what the predicate says (R50). -/
theorem wire_eq_ite {b : Bool} {p : Prop} [Decidable p] (h : b = true ↔ p) : wire b = if p then 1#1 else 0#1 := by
  cases b <;> simp [wire, ← h]

/-- Settles O21: `exec` binds the byte or the constant, and the canonical NaN is a NaN byte in every build. -/
theorem f143ConstructionResults : Obligations.F143ConstructionResults := fun s _ =>
  ⟨rfl, rfl, rfl, rfl, rfl, rfl, yields_iff.mpr rfl, yields_f143Decode_iff.mpr rfl, yields_iff.mpr rfl,
    yields_iff.mpr rfl, yields_f143Decode_iff.mpr rfl, (f143_nan_reported s (canonNan_isNan s.cfg)).1⟩

/-- Settles O22: each field is the slice of the byte that division and remainder give. -/
theorem f143FieldResults : Obligations.F143FieldResults := by
  intro s x
  rw [← x.sign_eq_ofNat, ← x.exp_eq_ofNat, ← x.mant_eq_ofNat]
  exact ⟨rfl, rfl, rfl⟩

/-- Settles O30: FROM_BYTE binds its byte, and each field is the slice that division and remainder give. -/
theorem f152ConstructionAndFieldResults : Obligations.F152ConstructionAndFieldResults := by
  intro s r x
  rw [← x.sign_eq_ofNat, ← x.exp_eq_ofNat, ← x.mant_eq_ofNat]
  exact ⟨rfl, rfl, rfl, rfl⟩

/-- A number with exponent field 15 has bits 120 to 126, which are 256 and 448. -/
theorem abs_val143_of_exp_max {x : F143} (he : x.byte.toNat / 8 % 16 = 15) (hm : x.byte.toNat % 8 ≠ 7) :
    ∃ q, val143 x = some q ∧ 256 ≤ |q| ∧ |q| ≤ 448 := by
  have hn : x.isNan = false := by simp [← Bool.not_eq_true, F143.isNan_iff_fields, hm]
  have hlo : gridOfBits 120 ≤ gridOfBits (x.byte.toNat % 128) := gridOfBits_strictMono.monotone (by omega)
  have hhi : gridOfBits (x.byte.toNat % 128) ≤ gridOfBits 126 := gridOfBits_strictMono.monotone (by omega)
  rw [show gridOfBits 120 = 131072 from rfl, ← Nat.cast_le (α := ℚ)] at hlo
  rw [gridOfBits_126, ← Nat.cast_le (α := ℚ)] at hhi
  refine ⟨_, val143_of_not_isNan hn, ?_⟩
  rw [abs_val143 (val143_of_not_isNan hn), le_div_iff₀ (by norm_num), div_le_iff₀ (by norm_num)]
  exact ⟨by norm_num at hlo ⊢; exact hlo, by norm_num at hhi ⊢; exact hhi⟩

/-- Settles O23: the predicates are facts about the fields, and the bits of exponent field 15 off NaN run from 120 to
126. -/
theorem f143ClassificationResults : Obligations.F143ClassificationResults := by
  intro s x
  rw [← wire_eq_ite F143.isSubnormal_iff, ← wire_eq_ite F143.isZero_iff, ← wire_eq_ite F143.isNegZero_iff,
    ← wire_eq_ite F143.isNan_iff_fields]
  exact ⟨rfl, rfl, rfl, rfl, abs_val143_of_exp_max⟩

end Machine

end Sys2Proof
end

section
/-! The value of an F152 number (R105). Its bits below the sign, shifted left once, are bits of the finer F143 grid: the
number is their grid magnitude in units of `2^-17`. -/

namespace Sys2Proof

theorem F152.eq_iff_byte {x y : F152} : x = y ↔ x.byte.toNat = y.byte.toNat := by
  rw [BitVec.toNat_inj]
  cases x
  cases y
  simp

namespace Machine

theorem gridOfBits_two_mul_of_lt {n : Nat} (hn : n < 4) : gridOfBits (2 * n) = 2 * n := if_pos (by omega)

theorem gridOfBits_two_mul_of_le {n : Nat} (hn : 4 ≤ n) :
    gridOfBits (2 * n) = 2 * (4 + n % 4) * 2 ^ (n / 4 - 1) := by
  have hm : 8 + 2 * n % 8 = 2 * (4 + n % 4) := by omega
  have he : 2 * n / 8 = n / 4 := by omega
  rw [gridOfBits, if_neg (by omega), hm, he]

theorem val152_of_not_isNan {x : F152} (h : x.isNan = false) :
    val152 x = some (signFactor x.sign * ((gridOfBits (2 * (x.byte.toNat % 128)) : ℚ) / 2 ^ 17)) := by
  have hexp : x.exp.toNat = x.byte.toNat % 128 / 4 := by rw [x.exp_toNat]; omega
  have hmant : x.mant.toNat = x.byte.toNat % 128 % 4 := by rw [x.mant_toNat]; omega
  simp only [val152, h, Bool.false_eq_true, if_false, hexp, hmant]
  generalize x.byte.toNat % 128 = n
  split_ifs with he
  · rw [gridOfBits_two_mul_of_lt (by omega), Nat.mod_eq_of_lt (by omega)]
    congr 1
    push_cast
    norm_num
    ring
  · obtain ⟨k, hk⟩ : ∃ k, n / 4 = k + 1 := ⟨n / 4 - 1, by omega⟩
    have hpow : (2 : ℚ) ^ (((n / 4 : ℕ) : ℤ) - 15) = 2 ^ k / 2 ^ 14 := by
      rw [hk, show ((k + 1 : ℕ) : ℤ) - 15 = (k : ℤ) - 14 by omega, zpow_sub₀ two_ne_zero, zpow_natCast]
      norm_num
    rw [gridOfBits_two_mul_of_le (by omega), hpow, hk, Nat.add_sub_cancel]
    congr 1
    push_cast
    ring

theorem val152_eq_some_iff {x : F152} {q : ℚ} :
    val152 x = some q ↔
      x.isNan = false ∧ q = signFactor x.sign * ((gridOfBits (2 * (x.byte.toNat % 128)) : ℚ) / 2 ^ 17) := by
  cases h : x.isNan with
  | true => simp [val152, h]
  | false => simp [val152_of_not_isNan h, eq_comm]

/-- Among numbers with sign bit 0 the value grows with the byte (R106). -/
theorem val152_lt_iff_of_sign_zero {x y : F152} {p q : ℚ} (hsx : x.sign = 0#1) (hsy : y.sign = 0#1)
    (hx : val152 x = some p) (hy : val152 y = some q) : x.byte.toNat < y.byte.toNat ↔ p < q := by
  obtain ⟨-, rfl⟩ := val152_eq_some_iff.mp hx
  obtain ⟨-, rfl⟩ := val152_eq_some_iff.mp hy
  have hbx := x.sign_toNat
  have hby := y.sign_toNat
  rw [hsx] at hbx ⊢
  rw [hsy] at hby ⊢
  simp only [BitVec.toNat_ofNat] at hbx hby
  rw [mul_lt_mul_iff_right₀ (by simp [signFactor]), div_lt_div_iff_of_pos_right (by norm_num), Nat.cast_lt,
    gridOfBits_strictMono.lt_iff_lt]
  omega

@[simp] theorem signFactor_zero : signFactor 0#1 = 1 := rfl

@[simp] theorem signFactor_one : signFactor 1#1 = -1 := rfl

/-- The numbers with exponent field 31 (R100): 65536, and a quarter of it more for each unit of the mantissa field. -/
theorem val152_of_exp_max {x : F152} (s : BitVec 1) (m : Nat) {q : ℚ} (hs : x.sign = s) (he : x.exp = 31#5)
    (hm : x.mant.toNat = m) (hlt : m < 3) (hq : signFactor s * (65536 + 16384 * m) = q) : val152 x = some q := by
  have hn : x.isNan = false := by simp [← Bool.not_eq_true, F152.isNan_iff, ← BitVec.toNat_inj, hm, hlt.ne]
  simp only [val152, hn, hs, he, hm, Bool.false_eq_true, if_false, BitVec.toNat_ofNat, ← hq]
  norm_num
  ring

/-- Settles O31: the predicates are facts about the fields, and exponent field 31 off NaN is a number. -/
theorem f152ClassificationResults : Obligations.F152ClassificationResults := by
  intro s x
  rw [← wire_eq_ite F152.isSubnormal_iff, ← wire_eq_ite F152.isZero_iff, ← wire_eq_ite F152.isNegZero_iff,
    ← wire_eq_ite F152.isNan_iff_fields]
  refine ⟨rfl, rfl, rfl, rfl, ?_, ?_, ?_, ?_, ?_, ?_⟩
  · exact val152_of_exp_max 0#1 0 rfl rfl rfl (by decide) (by norm_num)
  · exact val152_of_exp_max 0#1 1 rfl rfl rfl (by decide) (by norm_num)
  · exact val152_of_exp_max 0#1 2 rfl rfl rfl (by decide) (by norm_num)
  · exact val152_of_exp_max 1#1 0 rfl rfl rfl (by decide) (by norm_num)
  · exact val152_of_exp_max 1#1 1 rfl rfl rfl (by decide) (by norm_num)
  · exact val152_of_exp_max 1#1 2 rfl rfl rfl (by decide) (by norm_num)

end Machine

end Sys2Proof
end

section
/-! The five classes of a byte (R39, R40). -/

namespace Sys2Proof

/-- Of four conditions no two of which hold together, and the condition that none of them does, exactly one holds. -/
theorem count_true_eq_one : ∀ z n s a : Bool, (z = true → n = false) → (s = true → z = false ∧ n = false) →
    (a = true → z = false ∧ n = false ∧ s = false) → [z, n, s, a, !(z || n || s || a)].count true = 1 := by decide

theorem F143.count_classes (x : F143) :
    [x.isZero, x.isNegZero, x.isSubnormal, x.isNan, x.isNormal].count true = 1 := by
  apply count_true_eq_one <;>
    simp only [← Bool.not_eq_true, isZero_iff, isNegZero_iff, isSubnormal_iff, isNan_iff_fields] <;> omega

theorem F152.count_classes (x : F152) :
    [x.isZero, x.isNegZero, x.isSubnormal, x.isNan, x.isNormal].count true = 1 := by
  apply count_true_eq_one <;>
    simp only [← Bool.not_eq_true, isZero_iff, isNegZero_iff, isSubnormal_iff, isNan_iff_fields] <;> omega

/-- Exponent field 0 is zero, negative zero or subnormal. -/
theorem F143.isNormal_iff {x : F143} : x.isNormal = true ↔ x.exp ≠ 0#4 ∧ ¬(x.exp = 15#4 ∧ x.mant = 7#3) := by
  have := x.byte.isLt
  simp only [isNormal, ne_eq, Bool.not_eq_true', ← Bool.not_eq_true, Bool.or_eq_true, isZero_iff, isNegZero_iff,
    isSubnormal_iff, isNan_iff, ← BitVec.toNat_inj, x.exp_toNat, x.mant_toNat, BitVec.toNat_ofNat]
  omega

theorem F152.isNormal_iff {x : F152} : x.isNormal = true ↔ x.exp ≠ 0#5 ∧ ¬(x.exp = 31#5 ∧ x.mant = 3#2) := by
  have := x.byte.isLt
  simp only [isNormal, ne_eq, Bool.not_eq_true', ← Bool.not_eq_true, Bool.or_eq_true, isZero_iff, isNegZero_iff,
    isSubnormal_iff, isNan_iff, ← BitVec.toNat_inj, x.exp_toNat, x.mant_toNat, BitVec.toNat_ofNat]
  omega

/-- Settles O24: the conditions exclude each other by the fields, normal is what none of the others is, and the sizes
are counted. -/
theorem everyByteIsInExactlyOneClass : Obligations.EveryByteIsInExactlyOneClass := by
  refine ⟨fun x => ⟨x.count_classes, F143.isNormal_iff⟩, fun x => ⟨x.count_classes, F152.isNormal_iff⟩, ?_⟩
  decide +kernel

end Sys2Proof
end

section
/-! The pattern of a number, read as an unsigned number (R66, R102), and its value by R43 (R71, R106). -/

namespace Sys2Proof.Machine

theorem f32Pack_toNat (s : BitVec 1) {X F : Nat} (hX : X < 2 ^ 8) (hF : F < 2 ^ 23) :
    (f32Pack s X F).toNat = s.toNat * 2 ^ 31 + X * 2 ^ 23 + F := by
  rw [f32Pack, BitVec.toNat_append, BitVec.toNat_append, BitVec.toNat_ofNat, BitVec.toNat_ofNat,
    Nat.mod_eq_of_lt hX, Nat.mod_eq_of_lt hF, ← Nat.shiftLeft_add_eq_or_of_lt hX,
    ← Nat.shiftLeft_add_eq_or_of_lt hF, Nat.shiftLeft_eq, Nat.shiftLeft_eq]
  omega

variable {w r e m k : Nat} {s : BitVec 1}

/-! ### The fields of the pattern -/

theorem numberExp_zero : numberExp w r 0 0 = 0 := rfl

theorem numberFrac_zero : numberFrac w 0 0 = 0 := rfl

theorem numberExp_subnormal (hlo : 2 ^ k ≤ m) (hhi : m < 2 ^ (k + 1)) : numberExp w r 0 m = r + 1 - w + k := by
  have hm : m ≠ 0 := by have := Nat.two_pow_pos k; omega
  rw [numberExp, if_pos rfl, if_neg hm, (Nat.log2_eq_iff hm).mpr ⟨hlo, hhi⟩]

theorem numberFrac_subnormal (hlo : 2 ^ k ≤ m) (hhi : m < 2 ^ (k + 1)) :
    numberFrac w 0 m = (m - 2 ^ k) * 2 ^ (23 - k) := by
  have hm : m ≠ 0 := by have := Nat.two_pow_pos k; omega
  rw [numberFrac, if_pos rfl, if_neg hm, (Nat.log2_eq_iff hm).mpr ⟨hlo, hhi⟩, Nat.one_shiftLeft, Nat.shiftLeft_eq]

theorem numberExp_normal (he : e ≠ 0) : numberExp w r e m = e + r := if_neg he

theorem numberFrac_normal (he : e ≠ 0) : numberFrac w e m = m * 2 ^ (23 - w) := by
  rw [numberFrac, if_neg he, Nat.shiftLeft_eq]

/-- A number that is not zero has an exponent field of at least that of the smallest subnormal. -/
theorem le_numberExp (h : e ≠ 0 ∨ m ≠ 0) : r + 1 - w ≤ numberExp w r e m := by
  unfold numberExp
  split_ifs <;> omega

/-- The leading one of a mantissa field lies inside it, so the fraction bits below the field are 0. -/
theorem two_pow_dvd_numberFrac (hm : m < 2 ^ w) : 2 ^ (23 - w) ∣ numberFrac w e m := by
  unfold numberFrac
  split_ifs with he h0
  · exact dvd_zero _
  · have hk := (Nat.log2_lt h0).mpr hm
    rw [Nat.shiftLeft_eq]
    exact dvd_mul_of_dvd_right (pow_dvd_pow 2 (by omega)) _
  · rw [Nat.shiftLeft_eq]
    exact dvd_mul_left _ _

theorem numberPattern_toNat (s : BitVec 1) (hw : w ≤ 23) (hr : w ≤ r) (he : e + r < 255) (hm : m < 2 ^ w) :
    (numberPattern w r s e m).toNat = s.toNat * 2 ^ 31 + numberExp w r e m * 2 ^ 23 + numberFrac w e m :=
  f32Pack_toNat s ((numberExp_le hr hm).trans_lt (by omega)) (numberFrac_lt hw hm)

/-! ### The fields read back -/

theorem f32Exp_numberPattern (s : BitVec 1) (hr : w ≤ r) (he : e + r < 255) (hm : m < 2 ^ w) :
    (f32Exp (numberPattern w r s e m)).toNat = numberExp w r e m := by
  rw [numberPattern, f32Exp_f32Pack, BitVec.toNat_ofNat,
    Nat.mod_eq_of_lt ((numberExp_le hr hm).trans_lt (by omega))]

theorem f32Frac_numberPattern (s : BitVec 1) (hw : w ≤ 23) (hm : m < 2 ^ w) :
    (f32Frac (numberPattern w r s e m)).toNat = numberFrac w e m := by
  rw [numberPattern, f32Frac_f32Pack, BitVec.toNat_ofNat, Nat.mod_eq_of_lt (numberFrac_lt hw hm)]

theorem f32Sign_numberPattern : f32Sign (numberPattern w r s e m) = s := f32Sign_f32Pack s _ _

/-! ### The value -/

/-- A pattern whose exponent field is neither 0 nor 255 has R43's value, given by its fields. -/
theorem f32Value_of_fields {y : F32} {X F : Nat} (hX : (f32Exp y).toNat = X) (hF : (f32Frac y).toNat = F) (h0 : X ≠ 0)
    (h255 : X ≠ 255) :
    f32Value y = some (signFactor (f32Sign y) * (1 + (F : ℚ) / 2 ^ 23) * (2 : ℚ) ^ ((X : ℤ) - 127)) := by
  rw [f32Value, hX, hF, if_neg h0, if_neg h255]

/-- The value of a subnormal's pattern: the leading one at place `k` becomes the implicit bit, and `X` counts for it. -/
theorem f32Value_numberPattern_subnormal (hw : w ≤ 23) (hr : w ≤ r) (hr' : r < 255) (hm : m < 2 ^ w) :
    f32Value (numberPattern w r s 0 m) = some (signFactor s * ((m : ℚ) / 2 ^ w) * (2 : ℚ) ^ ((r : ℤ) - 126)) := by
  have hX := f32Exp_numberPattern s hr (e := 0) (by omega) hm
  have hF := f32Frac_numberPattern (r := r) (e := 0) s hw hm
  rcases Nat.eq_zero_or_pos m with rfl | hpos
  · simp [f32Value, hX, hF, numberExp_zero, numberFrac_zero]
  · have hlo := Nat.log2_self_le hpos.ne'
    have hhi := Nat.lt_log2_self (n := m)
    have hk := (Nat.log2_lt hpos.ne').mpr hm
    rw [numberExp_subnormal hlo hhi] at hX
    rw [numberFrac_subnormal hlo hhi] at hF
    rw [f32Value_of_fields hX hF (by omega) (by omega), f32Sign_numberPattern]
    generalize m.log2 = k at *
    have hfrac : 1 + (((m - 2 ^ k) * 2 ^ (23 - k) : ℕ) : ℚ) / 2 ^ 23 = (m : ℚ) / 2 ^ k := by
      have h23 : (2 : ℚ) ^ 23 = 2 ^ (23 - k) * 2 ^ k := by rw [← pow_add, Nat.sub_add_cancel (by omega)]
      rw [h23]
      push_cast [hlo]
      field_simp
      ring
    have hpow : (2 : ℚ) ^ (((r + 1 - w + k : ℕ) : ℤ) - 127) = 2 ^ k / 2 ^ w * 2 ^ ((r : ℤ) - 126) := by
      have hexp : ((r + 1 - w + k : ℕ) : ℤ) - 127 = (k : ℤ) - w + (r - 126) := by omega
      rw [hexp, zpow_add₀ two_ne_zero, zpow_sub₀ two_ne_zero, zpow_natCast, zpow_natCast]
    rw [hfrac, hpow]
    field_simp

theorem f32Value_numberPattern_normal (hw : w ≤ 23) (hr : w ≤ r) (he : e ≠ 0) (her : e + r < 255) (hm : m < 2 ^ w) :
    f32Value (numberPattern w r s e m) =
      some (signFactor s * (1 + (m : ℚ) / 2 ^ w) * (2 : ℚ) ^ (((e + r : ℕ) : ℤ) - 127)) := by
  have hX := f32Exp_numberPattern s hr her hm
  have hF := f32Frac_numberPattern (r := r) (e := e) s hw hm
  rw [numberExp_normal he] at hX
  rw [numberFrac_normal he] at hF
  have hfrac : ((m * 2 ^ (23 - w) : ℕ) : ℚ) / 2 ^ 23 = (m : ℚ) / 2 ^ w := by
    have h23 : (2 : ℚ) ^ 23 = 2 ^ (23 - w) * 2 ^ w := by rw [← pow_add, Nat.sub_add_cancel hw]
    rw [h23]
    push_cast
    field_simp
  rw [f32Value_of_fields hX hF (by omega) (by omega), f32Sign_numberPattern, hfrac]

end Sys2Proof.Machine
end

section
/-! `F143.DECODE` (R66): its pattern branch by branch, exact and in a narrow range (R71). -/

namespace Sys2Proof

theorem F143.isNan_eq_false_iff_fields {x : F143} :
    x.isNan = false ↔ ¬(x.byte.toNat / 8 % 16 = 15 ∧ x.byte.toNat % 8 = 7) := by
  rw [← Bool.not_eq_true, F143.isNan_iff_fields]

namespace Machine

variable {x : F143}

theorem decodeF143_toNat (cfg : Config) (h : x.isNan = false) :
    (decodeF143 cfg x).toNat = x.byte.toNat / 128 * 2 ^ 31 +
      numberExp 3 120 (x.byte.toNat / 8 % 16) (x.byte.toNat % 8) * 2 ^ 23 +
      numberFrac 3 (x.byte.toNat / 8 % 16) (x.byte.toNat % 8) := by
  have := x.exp.isLt
  rw [decodeF143_of_not_isNan cfg h, numberPattern_toNat x.sign (by decide) (by decide) (by omega) x.mant.isLt,
    x.sign_toNat, x.exp_toNat, x.mant_toNat]

/-- Settles O25: the NaN fields are tested first, and the pattern of any other byte is that of its fields. -/
theorem f143DecodeResult : Obligations.F143DecodeResult := by
  intro s x
  refine ⟨decodeF143 s.cfg x, rfl, fun he hm => ?_, fun he hm => ?_, fun k he hlo hhi => ?_, fun he hn => ?_⟩
  · exact decodeF143_of_isNan s.cfg (F143.isNan_iff_fields.mpr ⟨he, hm⟩)
  · rw [decodeF143_toNat s.cfg (F143.isNan_eq_false_iff_fields.mpr (by omega)), he, hm, numberExp_zero, numberFrac_zero,
      zero_mul, add_zero, add_zero]
  · rw [decodeF143_toNat s.cfg (F143.isNan_eq_false_iff_fields.mpr (by omega)), he, numberExp_subnormal hlo hhi,
      numberFrac_subnormal hlo hhi]
  · rw [decodeF143_toNat s.cfg (F143.isNan_eq_false_iff_fields.mpr hn), numberExp_normal he, numberFrac_normal he]

/-- The pattern of a number has the number's value (R71). -/
theorem f32Value_decodeF143 (cfg : Config) {q : ℚ} (h : val143 x = some q) : f32Value (decodeF143 cfg x) = some q := by
  have hn := (val143_eq_some_iff.mp h).1
  have := x.exp.isLt
  rw [← h, decodeF143_of_not_isNan cfg hn, val143, hn]
  simp only [Bool.false_eq_true, if_false]
  split_ifs with he
  · rw [he, f32Value_numberPattern_subnormal (by decide) (by decide) (by decide) x.mant.isLt]
    norm_num
  · have hexp : ((x.exp.toNat + 120 : ℕ) : ℤ) - 127 = (x.exp.toNat : ℤ) - 7 := by omega
    rw [f32Value_numberPattern_normal (by decide) (by decide) he (by omega) x.mant.isLt, hexp]
    norm_num

/-- A number that is not zero has a field that is not 0. -/
theorem f143_fields_ne_zero {q : ℚ} (h : val143 x = some q) (hq : q ≠ 0) : x.exp.toNat ≠ 0 ∨ x.mant.toNat ≠ 0 := by
  by_contra hzero
  obtain ⟨-, rfl⟩ := val143_eq_some_iff.mp h
  have hgrid : gridMag x = 0 := by
    rw [gridMag_eq_zero_iff]
    have := x.byte_toNat_eq_fields
    omega
  simp [hgrid] at hq

/-- Settles O26: the value is that of the fields, by which the range of `X` and the low bits of `F` are bounded too. -/
theorem f143DecodeIsExact : Obligations.F143DecodeIsExact := by
  intro s x q h
  have hn := (val143_eq_some_iff.mp h).1
  have he := x.exp.isLt
  refine ⟨_, yields_f143Decode_iff.mpr rfl, f32Value_decodeF143 s.cfg h, fun hq => ?_, ?_⟩
  · rw [decodeF143_of_not_isNan s.cfg hn, f32Exp_numberPattern x.sign (by decide) (by omega) x.mant.isLt]
    have hlo := le_numberExp (w := 3) (r := 120) (f143_fields_ne_zero h hq)
    have hhi := numberExp_le (w := 3) (r := 120) (e := x.exp.toNat) (by decide) x.mant.isLt
    omega
  · rw [decodeF143_of_not_isNan s.cfg hn, f32Frac_numberPattern x.sign (by decide) x.mant.isLt]
    exact Nat.mod_eq_zero_of_dvd (two_pow_dvd_numberFrac x.mant.isLt)

end Machine

end Sys2Proof
end

section
/-! `F152.DECODE` (R102): its pattern branch by branch, exact, in its range, and in the order of the bytes (R106). -/

namespace Sys2Proof

@[simp] theorem F152.neg_sign (x : F152) : x.neg.sign = x.sign ^^^ 1#1 := by
  simp [F152.neg, F152.sign, BitVec.extractLsb'_xor]

@[simp] theorem F152.neg_exp (x : F152) : x.neg.exp = x.exp := by
  simp [F152.neg, F152.exp, BitVec.extractLsb'_xor]

@[simp] theorem F152.neg_mant (x : F152) : x.neg.mant = x.mant := by
  simp [F152.neg, F152.mant, BitVec.extractLsb'_xor]

@[simp] theorem F152.neg_isNan (x : F152) : x.neg.isNan = x.isNan := by simp [F152.isNan]

theorem F152.isNan_eq_false_iff_fields {x : F152} :
    x.isNan = false ↔ ¬(x.byte.toNat / 4 % 32 = 31 ∧ x.byte.toNat % 4 = 3) := by
  rw [← Bool.not_eq_true, F152.isNan_iff_fields]

/-- Equal fields, equal bytes. -/
theorem F152.ext_fields {x y : F152} (hs : x.sign = y.sign) (he : x.exp.toNat = y.exp.toNat)
    (hm : x.mant.toNat = y.mant.toNat) : x = y := by
  rw [eq_iff_byte, byte_toNat_eq_fields, byte_toNat_eq_fields y, hs, he, hm]

namespace Machine

variable {x : F152}

theorem decodeF152_toNat (cfg : Config) (h : x.isNan = false) :
    (decodeF152 cfg x).toNat = x.byte.toNat / 128 * 2 ^ 31 +
      numberExp 2 112 (x.byte.toNat / 4 % 32) (x.byte.toNat % 4) * 2 ^ 23 +
      numberFrac 2 (x.byte.toNat / 4 % 32) (x.byte.toNat % 4) := by
  have := x.exp.isLt
  rw [decodeF152_of_not_isNan cfg h, numberPattern_toNat x.sign (by decide) (by decide) (by omega) x.mant.isLt,
    x.sign_toNat, x.exp_toNat, x.mant_toNat]

/-- Settles O32: the NaN fields are tested first, and the pattern of any other byte is that of its fields. -/
theorem f152DecodeResult : Obligations.F152DecodeResult := by
  intro s x
  refine ⟨decodeF152 s.cfg x, rfl, fun he hm => ?_, fun he hm => ?_, fun k he hlo hhi => ?_, fun he hn => ?_⟩
  · exact decodeF152_of_isNan s.cfg (F152.isNan_iff_fields.mpr ⟨he, hm⟩)
  · rw [decodeF152_toNat s.cfg (F152.isNan_eq_false_iff_fields.mpr (by omega)), he, hm, numberExp_zero,
      numberFrac_zero, zero_mul, add_zero, add_zero]
  · rw [decodeF152_toNat s.cfg (F152.isNan_eq_false_iff_fields.mpr (by omega)), he, numberExp_subnormal hlo hhi,
      numberFrac_subnormal hlo hhi]
  · rw [decodeF152_toNat s.cfg (F152.isNan_eq_false_iff_fields.mpr hn), numberExp_normal he, numberFrac_normal he]

/-- Flipping the sign bit of a byte that is no NaN flips bit 31 of its pattern. -/
theorem decodeF152_neg (cfg : Config) (h : x.isNan = false) :
    decodeF152 cfg x.neg = decodeF152 cfg x ^^^ 0x80000000#32 := by
  rw [decodeF152_of_not_isNan cfg h, decodeF152_of_not_isNan cfg (x.neg_isNan.trans h), F152.neg_sign, F152.neg_exp,
    F152.neg_mant]
  exact f32Pack_flip_sign x.sign _ _

/-- Different bytes that are no NaN have different patterns. -/
theorem decodeF152_injective (cfg : Config) {y : F152} (hx : x.isNan = false) (hy : y.isNan = false)
    (h : decodeF152 cfg x = decodeF152 cfg y) : x = y := by
  rw [decodeF152_of_not_isNan cfg hx, decodeF152_of_not_isNan cfg hy] at h
  have hex := x.exp.isLt
  have hey := y.exp.isLt
  obtain ⟨hs, he, hm⟩ :=
    numberPattern_injective (by decide) (by decide) (by omega) (by omega) x.mant.isLt y.mant.isLt h
  exact F152.ext_fields hs he hm

/-- The pattern of a number has the number's value (R106). -/
theorem f32Value_decodeF152 (cfg : Config) {q : ℚ} (h : val152 x = some q) : f32Value (decodeF152 cfg x) = some q := by
  have hn := (val152_eq_some_iff.mp h).1
  have := x.exp.isLt
  rw [← h, decodeF152_of_not_isNan cfg hn, val152, hn]
  simp only [Bool.false_eq_true, if_false]
  split_ifs with he
  · rw [he, f32Value_numberPattern_subnormal (by decide) (by decide) (by decide) x.mant.isLt]
    norm_num
  · have hexp : ((x.exp.toNat + 112 : ℕ) : ℤ) - 127 = (x.exp.toNat : ℤ) - 15 := by omega
    rw [f32Value_numberPattern_normal (by decide) (by decide) he (by omega) x.mant.isLt, hexp]
    norm_num

/-- A number that is not zero has a field that is not 0. -/
theorem f152_fields_ne_zero {q : ℚ} (h : val152 x = some q) (hq : q ≠ 0) :
    x.exp.toNat ≠ 0 ∨ x.mant.toNat ≠ 0 := by
  by_contra hzero
  obtain ⟨-, rfl⟩ := val152_eq_some_iff.mp h
  have hbits : x.byte.toNat % 128 = 0 := by
    have := x.byte_toNat_eq_fields
    omega
  simp [hbits, gridOfBits] at hq

/-- With exponent field 15 and sign 0 the numbers are the quarters from 1 (R107). -/
theorem val152_of_exp_15 (hs : x.sign = 0#1) (he : x.exp = 15#5) : val152 x = some (1 + (x.mant.toNat : ℚ) / 4) := by
  have hn : x.isNan = false := by simp [F152.isNan, he]
  simp [val152, hn, hs, he]

/-- Settles O33: sign, value, range and injectivity by the fields of the pattern, order by the grid. -/
theorem f152DecodeIsExactAndOrdered : Obligations.F152DecodeIsExactAndOrdered := by
  refine ⟨fun s x q h => ?_, fun s x₁ x₂ y h₁ h₂ hy₁ hy₂ => ?_,
    fun x₁ x₂ q₁ q₂ hs₁ hs₂ hq₁ hq₂ => val152_lt_iff_of_sign_zero hs₁ hs₂ hq₁ hq₂, fun x => val152_of_exp_15⟩
  · have hn := (val152_eq_some_iff.mp h).1
    have he := x.exp.isLt
    refine ⟨_, yields_f152Decode_iff.mpr rfl, yields_f152Decode_iff.mpr (decodeF152_neg s.cfg hn).symm,
      f32Value_decodeF152 s.cfg h, fun hq => ?_, ?_⟩
    · rw [decodeF152_of_not_isNan s.cfg hn, f32Exp_numberPattern x.sign (by decide) (by omega) x.mant.isLt]
      have hlo := le_numberExp (w := 2) (r := 112) (f152_fields_ne_zero h hq)
      have hhi := numberExp_le (w := 2) (r := 112) (e := x.exp.toNat) (by decide) x.mant.isLt
      omega
    · rw [decodeF152_of_not_isNan s.cfg hn, f32Frac_numberPattern x.sign (by decide) x.mant.isLt]
      exact Nat.mod_eq_zero_of_dvd (two_pow_dvd_numberFrac x.mant.isLt)
  · rw [yields_f152Decode_iff] at hy₁ hy₂
    exact decodeF152_injective s.cfg h₁ h₂ (hy₁.symm.trans hy₂)

end Machine

end Sys2Proof
end

section
/-! `F143.ADD` of two numbers in one form: a sign in front of the rounded bits of the sum's magnitude, an exact zero
included, and NaN past 464 (R81, R85). -/

namespace Sys2Proof.Machine

variable {cfg : Config} {a b : F143} {va vb : ℚ}

/-- The sign bit of a sum: that of the exact sum, and for an exact zero the and of the signs (R81, R82). -/
def sumSign (a b : F143) : BitVec 1 :=
  if gridInt a + gridInt b = 0 then a.sign &&& b.sign else wire (decide (gridInt a + gridInt b < 0))

theorem sumSign_of_sum_zero (hS : gridInt a + gridInt b = 0) : sumSign a b = a.sign &&& b.sign := if_pos hS

theorem sumSign_of_sum_ne_zero (hS : gridInt a + gridInt b ≠ 0) :
    sumSign a b = wire (decide (gridInt a + gridInt b < 0)) := if_neg hS

theorem addF143_eq_packOrNan (ha : a.isNan = false) (hb : b.isNan = false) :
    addF143 cfg a b = packOrNan cfg (sumSign a b) (roundedBits (gridInt a + gridInt b).natAbs) := by
  by_cases hS : gridInt a + gridInt b = 0
  · rw [addF143_of_sum_zero ha hb hS, sumSign_of_sum_zero hS, hS, Int.natAbs_zero, roundedBits_of_lt (by decide),
      packOrNan_of_lt (by decide)]
  · rw [addF143_of_sum_ne_zero ha hb hS, sumSign_of_sum_ne_zero hS]

theorem addF143_eq_packBits (ha : a.isNan = false) (hb : b.isNan = false) (hr : (addF143 cfg a b).isNan = false) :
    roundedBits (gridInt a + gridInt b).natAbs < 127 ∧
      addF143 cfg a b = packBits (sumSign a b) (roundedBits (gridInt a + gridInt b).natAbs) := by
  rw [addF143_eq_packOrNan ha hb] at hr ⊢
  rw [← Bool.not_eq_true, packOrNan_isNan_iff, not_le] at hr
  exact ⟨hr, packOrNan_of_lt hr⟩

/-- Settles O38: of the rounded bits of a sum those past 464 do not fit, and no others. -/
theorem sumsOverflowExactlyPast464 : Obligations.SumsOverflowExactlyPast464 := by
  intro s a b va vb hva hvb
  refine ⟨_, yields_f143Add_iff.mpr rfl, ?_⟩
  rw [addF143_eq_packOrNan (val143_eq_some_iff.mp hva).1 (val143_eq_some_iff.mp hvb).1, packOrNan_isNan_iff, ← not_lt,
    roundedBits_lt_iff, ← abs_add_le_464_iff hva hvb, not_le]

end Sys2Proof.Machine
end

section
/-! Rounding a sum is monotone, and exact below 16 units (R86, R91). -/

namespace Sys2Proof.Machine

variable {cfg : Config} {a b : F143}

/-- Of two magnitudes the larger has no smaller rounded bits: bits nearest to one and not to the other would lie on the
wrong side of the point half way. -/
theorem roundedBits_mono {M N : Nat} (h : M ≤ N) : roundedBits M ≤ roundedBits N := by
  by_contra hlt
  have hgrid := gridOfBits_strictMono (not_le.mp hlt)
  have hM := (roundedBits_nearest M (roundedBits N)).1
  have hN := (roundedBits_nearest N (roundedBits M)).1
  simp only [gridDist] at hM hN
  obtain rfl : M = N := by omega
  exact hlt le_rfl

/-- The grid integer of a rounded sum. -/
def roundGrid (S : ℤ) : ℤ :=
  if S < 0 then -(gridOfBits (roundedBits S.natAbs) : ℤ) else gridOfBits (roundedBits S.natAbs)

theorem roundGrid_mono {S T : ℤ} (h : S ≤ T) : roundGrid S ≤ roundGrid T := by
  have hmono : ∀ {M N : Nat}, M ≤ N → gridOfBits (roundedBits M) ≤ gridOfBits (roundedBits N) := fun hle =>
    gridOfBits_strictMono.monotone (roundedBits_mono hle)
  unfold roundGrid
  split_ifs with hS hT hT
  · have := hmono (M := T.natAbs) (N := S.natAbs) (by omega)
    omega
  · omega
  · omega
  · have := hmono (M := S.natAbs) (N := T.natAbs) (by omega)
    omega

theorem gridOfBits_of_lt_16 {n : Nat} (hn : n < 16) : gridOfBits n = n := by
  unfold gridOfBits
  split_ifs with h
  · rfl
  · have he : n / 8 - 1 = 0 := by omega
    rw [he]
    omega

theorem roundedBits_lt_16_iff {M : Nat} : roundedBits M < 16 ↔ M < 16 := by
  constructor
  · intro hlt
    by_contra hge
    have hmono := roundedBits_mono (not_lt.mp hge)
    have h16 : roundedBits 16 = 16 := roundedBits_gridOfBits 16
    omega
  · intro hlt
    have hself := roundedBits_gridOfBits M
    rw [gridOfBits_of_lt_16 hlt] at hself
    omega

/-- A sum of fewer than 16 units is exact. -/
theorem roundGrid_of_lt_16 {S : ℤ} (hS : S.natAbs < 16) : roundGrid S = S := by
  have hbits : gridOfBits (roundedBits S.natAbs) = S.natAbs := by
    have hself := roundedBits_gridOfBits S.natAbs
    rw [gridOfBits_of_lt_16 hS] at hself
    rw [hself, gridOfBits_of_lt_16 hS]
  unfold roundGrid
  split_ifs <;> omega

theorem gridInt_packBits {s : BitVec 1} {n : Nat} (hn : n < 128) :
    gridInt (packBits s n) = if s = 1#1 then -(gridOfBits n : ℤ) else gridOfBits n := by
  rw [gridInt, packBits_sign, gridMag_packBits hn]

/-- The value of a number is its grid integer in units of `2^-9`. -/
theorem val143_eq_some_gridInt {x : F143} (h : x.isNan = false) : val143 x = some ((gridInt x : ℚ) / 512) := by
  have hx := val143_of_not_isNan h
  rw [hx, val143_eq_gridInt hx]

/-- A sum that is a number is the rounding of the exact sum. -/
theorem gridInt_addF143 (ha : a.isNan = false) (hb : b.isNan = false) (hr : (addF143 cfg a b).isNan = false) :
    gridInt (addF143 cfg a b) = roundGrid (gridInt a + gridInt b) := by
  obtain ⟨hlt, heq⟩ := addF143_eq_packBits ha hb hr
  rw [heq, gridInt_packBits (by omega), roundGrid]
  by_cases hS : gridInt a + gridInt b = 0
  · simp [hS, roundedBits_of_lt, gridOfBits]
  · simp only [sumSign_of_sum_ne_zero hS, wire_decide_eq_one_iff]

theorem isNan_of_val143 {x : F143} {q : ℚ} (h : val143 x = some q) : x.isNan = false := (val143_eq_some_iff.mp h).1

theorem val143_le_iff {x y : F143} {p q : ℚ} (hx : val143 x = some p) (hy : val143 y = some q) :
    p ≤ q ↔ gridInt x ≤ gridInt y := by
  rw [val143_eq_gridInt hx, val143_eq_gridInt hy, div_le_div_iff_of_pos_right (by norm_num), Int.cast_le]

/-- Settles O44: the grid sum grows with the right operand, and rounding is monotone. -/
theorem additionIsMonotone : Obligations.AdditionIsMonotone := by
  intro s a b₁ b₂ r₁ r₂ w₁ w₂ v₁ v₂ ha hb₁ hb₂ hle hr₁ hr₂ hv₁ hv₂
  obtain rfl := yields_f143Add_iff.mp hr₁
  obtain rfl := yields_f143Add_iff.mp hr₂
  rw [val143_le_iff hb₁ hb₂] at hle
  rw [val143_le_iff hv₁ hv₂, gridInt_addF143 ha (isNan_of_val143 hb₁) (isNan_of_val143 hv₁),
    gridInt_addF143 ha (isNan_of_val143 hb₂) (isNan_of_val143 hv₂)]
  exact roundGrid_mono (by omega)

/-- Settles O46: exponent field 0 or 1 is fewer than 16 units, where no bit is dropped. -/
theorem sumsInTheSubnormalRangeAreExact : Obligations.SumsInTheSubnormalRangeAreExact := by
  intro s a b r va vb hva hvb hr hexp
  obtain rfl := yields_f143Add_iff.mp hr
  have ha := isNan_of_val143 hva
  have hb := isNan_of_val143 hvb
  rw [F143.exp_toNat] at hexp
  have hn : (addF143 s.cfg a b).isNan = false := F143.isNan_eq_false_iff_fields.mpr (by omega)
  obtain ⟨hlt, heq⟩ := addF143_eq_packBits ha hb hn
  have hbits := packBits_bits (s := sumSign a b) (hlt.trans (by decide))
  rw [← heq] at hbits
  have hM : (gridInt a + gridInt b).natAbs < 16 := roundedBits_lt_16_iff.mp (by omega)
  rw [val143_eq_some_gridInt hn, gridInt_addF143 ha hb hn, roundGrid_of_lt_16 hM, val143_add_eq_grid hva hvb]

end Sys2Proof.Machine
end

section
/-! Flipping both signs, and doubling (R91). -/

namespace Sys2Proof

theorem F143.neg_neg (x : F143) : x.neg.neg = x := by simp [F143.neg]

theorem F143.neg_injective : Function.Injective F143.neg := Function.Involutive.injective F143.neg_neg

namespace Machine

variable {cfg : Config} {a b : F143}

theorem neg_packBits (s : BitVec 1) (n : Nat) : (packBits s n).neg = packBits (s ^^^ 1#1) n := by
  have hmask : 0x80#8 = 1#1 ++ 0#7 := rfl
  rw [packBits, F143.neg, hmask, BitVec.xor_append, BitVec.xor_zero, packBits]

/-- Flipping the sign of a packed number flips its sign bit; a NaN has no sign to flip. -/
theorem packOrNan_flip_sign (s : BitVec 1) (n : Nat) :
    packOrNan cfg (s ^^^ 1#1) n =
      if (packOrNan cfg s n).isNan then packOrNan cfg s n else (packOrNan cfg s n).neg := by
  rcases Nat.lt_or_ge n 127 with hn | hn
  · simp [packOrNan_of_lt hn, packBits_isNan hn, neg_packBits]
  · simp [packOrNan_of_le hn, canonNan_isNan]

theorem gridMag_neg (x : F143) : gridMag x.neg = gridMag x := by
  simp [gridMag, F143.sig, F143.effExp]

theorem gridInt_neg (x : F143) : gridInt x.neg = -gridInt x := by
  rcases BitVec.eq_zero_or_eq_one x.sign with hs | hs
  · rw [gridInt_of_sign_zero hs, gridInt_of_sign_one (by simp [hs]), gridMag_neg]
  · rw [gridInt_of_sign_one hs, gridInt_of_sign_zero (by simp [hs]), gridMag_neg, neg_neg]

theorem wire_neg_lt_zero {S : ℤ} (hS : S ≠ 0) : wire (decide (-S < 0)) = wire (decide (S < 0)) ^^^ 1#1 := by
  rcases Int.lt_or_gt_of_ne hS with h | h
  · have h' : ¬0 < S := by omega
    simp [wire, h, h']
  · have h' : ¬S < 0 := by omega
    simp [wire, h, h']

theorem addF143_neg_neg (ha : a.isNan = false) (hb : b.isNan = false) (hS : gridInt a + gridInt b ≠ 0) :
    addF143 cfg a.neg b.neg = if (addF143 cfg a b).isNan then addF143 cfg a b else (addF143 cfg a b).neg := by
  have hneg : gridInt a.neg + gridInt b.neg = -(gridInt a + gridInt b) := by
    rw [gridInt_neg, gridInt_neg]
    omega
  rw [addF143_of_sum_ne_zero (a.neg_isNan.trans ha) (b.neg_isNan.trans hb) (by omega), hneg, Int.natAbs_neg,
    wire_neg_lt_zero hS, packOrNan_flip_sign, ← addF143_of_sum_ne_zero ha hb hS]

/-- An exact zero sum of different numbers is 0x00: only 0x80 and 0x80 are both negative. -/
theorem addF143_of_sum_zero_of_ne (ha : a.isNan = false) (hb : b.isNan = false) (hS : gridInt a + gridInt b = 0)
    (hne : a ≠ b) : addF143 cfg a b = ⟨0x00#8⟩ := by
  have hs : a.sign &&& b.sign = 0#1 := by
    refine (BitVec.eq_zero_or_eq_one _).resolve_right fun h => hne ?_
    obtain ⟨hsa, hsb⟩ := and_eq_one_iff.mp h
    obtain ⟨hba, hbb⟩ := bits_eq_zero_of_sum_zero hsa hsb hS
    rw [← packBits_sign_bits a, ← packBits_sign_bits b, hsa, hsb, hba, hbb]
  rw [addF143_of_sum_zero ha hb hS, hs]
  rfl

/-- Settles O42: flipping both signs negates the grid sum, whose magnitude is rounded alike. -/
theorem negatingBothOperandsNegatesTheSum : Obligations.NegatingBothOperandsNegatesTheSum := by
  refine ⟨fun s a b r va vb hva hvb hne hr => ?_, fun s a b va vb hva hvb hS hne => ?_,
    fun s => ⟨yields_f143Add_iff.mpr rfl, yields_f143Add_iff.mpr rfl⟩⟩
  · obtain rfl := yields_f143Add_iff.mp hr
    rw [Ne, val143_add_eq_zero_iff hva hvb] at hne
    exact yields_f143Add_iff.mpr (addF143_neg_neg (isNan_of_val143 hva) (isNan_of_val143 hvb) hne).symm
  · rw [val143_add_eq_zero_iff hva hvb] at hS
    have ha := isNan_of_val143 hva
    have hb := isNan_of_val143 hvb
    have hneg : gridInt a.neg + gridInt b.neg = 0 := by
      rw [gridInt_neg, gridInt_neg]
      omega
    exact ⟨yields_f143Add_iff.mpr (addF143_of_sum_zero_of_ne ha hb hS hne).symm,
      yields_f143Add_iff.mpr (addF143_of_sum_zero_of_ne (a.neg_isNan.trans ha) (b.neg_isNan.trans hb) hneg
        (F143.neg_injective.ne hne)).symm⟩

/-! ### Doubling -/

/-- The seven bits of twice a number: below 8 units a shift, from there on one more in the exponent field. -/
def doubledBits (n : Nat) : Nat := if n < 8 then 2 * n else n + 8

theorem gridOfBits_doubledBits (n : Nat) : gridOfBits (doubledBits n) = 2 * gridOfBits n := by
  unfold doubledBits
  split_ifs with hn
  · rw [gridOfBits_of_lt_16 (by omega), gridOfBits_of_lt_16 (by omega)]
  · obtain ⟨k, hk⟩ : ∃ k, n / 8 = k + 1 := ⟨n / 8 - 1, by omega⟩
    have hq : (n + 8) / 8 = k + 2 := by omega
    have hr : (n + 8) % 8 = n % 8 := by omega
    rw [gridOfBits, if_neg (by omega), gridOfBits, if_neg hn, hk, hq, hr, show k + 2 - 1 = k + 1 from rfl,
      Nat.add_sub_cancel, pow_succ]
    ring

theorem sumSign_self (x : F143) : sumSign x x = x.sign := by
  by_cases hS : gridInt x + gridInt x = 0
  · rw [sumSign_of_sum_zero hS, BitVec.and_self]
  · rw [sumSign_of_sum_ne_zero hS]
    exact wire_sum_neg le_rfl hS

theorem addF143_self {x : F143} (hx : x.isNan = false) :
    addF143 cfg x x = packOrNan cfg x.sign (doubledBits (x.byte.toNat % 128)) := by
  have hM : (gridInt x + gridInt x).natAbs = gridOfBits (doubledBits (x.byte.toNat % 128)) := by
    rw [gridOfBits_doubledBits, ← gridMag_eq_gridOfBits, ← natAbs_gridInt]
    omega
  rw [addF143_eq_packOrNan hx hx, sumSign_self, hM, roundedBits_gridOfBits]

theorem abs_val143_le_224_iff {x : F143} {q : ℚ} (h : val143 x = some q) :
    |q| ≤ 224 ↔ x.byte.toNat % 128 ≤ 118 := by
  rw [← gridOfBits_strictMono.le_iff_le, show gridOfBits 118 = 114688 from rfl, abs_val143 h,
    div_le_iff₀ (by norm_num), ← Nat.cast_le (α := ℚ)]
  norm_num

theorem le_abs_val143_240_iff {x : F143} {q : ℚ} (h : val143 x = some q) :
    240 ≤ |q| ↔ 119 ≤ x.byte.toNat % 128 := by
  rw [← gridOfBits_strictMono.le_iff_le, show gridOfBits 119 = 122880 from rfl, abs_val143 h,
    le_div_iff₀ (by norm_num), ← Nat.cast_le (α := ℚ)]
  norm_num

/-- Settles O43: twice a number's grid magnitude is that of `doubledBits`, which fit up to bits 118, that is 224. -/
theorem doublingIsExactUpTo224 : Obligations.DoublingIsExactUpTo224 := by
  intro s x q h
  have hsign := x.sign_toNat
  obtain ⟨hn, hq⟩ := val143_eq_some_iff.mp h
  rw [gridMag_eq_gridOfBits] at hq
  refine ⟨_, yields_f143Add_iff.mpr rfl, ?_⟩
  rw [abs_val143_le_224_iff h, le_abs_val143_240_iff h, addF143_self hn]
  have hlt : x.byte.toNat % 128 ≤ 118 → doubledBits (x.byte.toNat % 128) < 127 := fun hle => by
    unfold doubledBits
    split_ifs <;> omega
  refine ⟨fun hle => ?_, fun hle hnormal => ?_, fun hsub => ?_, fun hge => ?_⟩
  · rw [packOrNan_of_lt (hlt hle), val143_packBits (hlt hle), gridOfBits_doubledBits, hq]
    congr 1
    push_cast
    ring
  · have he : ¬x.byte.toNat % 128 < 8 := by
      have := (F143.isNormal_iff.mp hnormal).1
      rw [Ne, ← BitVec.toNat_inj, x.exp_toNat, BitVec.toNat_ofNat] at this
      omega
    rw [packOrNan_of_lt (hlt hle), ← BitVec.toNat_inj, packBits_byte_toNat ((hlt hle).trans (by decide)), doubledBits,
      if_neg he, BitVec.toNat_add, BitVec.toNat_ofNat]
    omega
  · obtain ⟨he, -⟩ := F143.isSubnormal_iff.mp hsub
    have hle : x.byte.toNat % 128 < 8 := by omega
    rw [packOrNan_of_lt (hlt (by omega)), packBits_byte_toNat ((hlt (by omega)).trans (by decide)), doubledBits,
      if_pos hle]
    omega
  · rw [doubledBits, if_neg (by omega), packOrNan_of_le (by omega)]
    rfl

end Machine

end Sys2Proof
end

section
/-! `F143.ADD` in integer arithmetic on bytes read as unsigned numbers (R73). -/

namespace Sys2Proof.Machine

variable {cfg : Config} {a b : F143}

theorem sign_eq_one_iff {x : F143} : x.sign = 1#1 ↔ 128 ≤ x.byte.toNat := by
  have := x.byte.isLt
  rw [← BitVec.toNat_inj, x.sign_toNat, BitVec.toNat_ofNat]
  omega

theorem gridMag_eq_of_fields (x : F143) :
    gridMag x = (if x.byte.toNat / 8 % 16 = 0 then x.byte.toNat % 8 else 8 + x.byte.toNat % 8) *
      2 ^ ((if x.byte.toNat / 8 % 16 = 0 then 1 else x.byte.toNat / 8 % 16) - 1) := by
  rw [gridMag_eq, F143.sig, F143.effExp, x.exp_toNat, x.mant_toNat]

theorem gridInt_eq_ite (x : F143) : gridInt x = if 128 ≤ x.byte.toNat then -(gridMag x : ℤ) else gridMag x := by
  simp only [gridInt, sign_eq_one_iff]

theorem wire_toNat_mul (p : Prop) [Decidable p] : (wire (decide p)).toNat * 128 = if p then 128 else 0 := by
  by_cases hp : p <;> simp [wire, hp]

/-- Packing by exponent field and significand (R85). -/
theorem packOrNan_byte_of_fields {s : BitVec 1} {er f : Nat} (hf : 8 ≤ f) (hf' : f < 16) :
    if 15 < er ∨ (er = 15 ∧ f = 15) then (packOrNan cfg s (er * 8 + (f - 8))).byte = cfg.nanCanon.byte
    else (packOrNan cfg s (er * 8 + (f - 8))).byte.toNat = s.toNat * 128 + er * 8 + (f - 8) := by
  split_ifs with h
  · rw [packOrNan_of_le (by omega)]
    rfl
  · rw [packOrNan_of_lt (by omega), packBits_byte_toNat (by omega), add_assoc]

/-- The rounded quotient by the comparison of the dropped part with half (R83). -/
theorem roundedQuotient_eq_ite (M sh : Nat) :
    roundedQuotient M sh =
      if 2 ^ sh < 2 * (M % 2 ^ sh) ∨ (2 * (M % 2 ^ sh) = 2 ^ sh ∧ M / 2 ^ sh % 2 = 1) then M / 2 ^ sh + 1
      else M / 2 ^ sh := by
  unfold roundedQuotient roundsUp
  split_ifs with h <;> simp [h]

/-- The byte of a nonzero magnitude of fewer than 8 units is exact (R82). -/
theorem packOrNan_roundedBits_of_lt {s : BitVec 1} {M : Nat} (hM : M < 8) :
    (packOrNan cfg s (roundedBits M)).byte.toNat = s.toNat * 128 + M := by
  rw [roundedBits_of_lt hM, packOrNan_of_lt (by omega), packBits_byte_toNat (by omega)]

/-- The byte of a magnitude with leading one at place `p`, by its rounded quotient: a quotient of 16 is a carry into the
exponent field (R84, R85). -/
theorem packOrNan_roundedBits_of_le {s : BitVec 1} {M p q2 : Nat} (hlo : 2 ^ p ≤ M) (hhi : M < 2 ^ (p + 1))
    (hp : 3 ≤ p) (hq2 : q2 = roundedQuotient M (p - 3)) :
    let er := if q2 = 16 then p - 1 else p - 2
    let f := if q2 = 16 then 8 else q2
    if 15 < er ∨ (er = 15 ∧ f = 15) then (packOrNan cfg s (roundedBits M)).byte = cfg.nanCanon.byte
    else (packOrNan cfg s (roundedBits M)).byte.toNat = s.toNat * 128 + er * 8 + (f - 8) := by
  intro er f
  have h8 : 8 ≤ M := (Nat.pow_le_pow_right two_pos hp).trans hlo
  have hlog : M.log2 = p := (Nat.log2_eq_iff (by omega)).mpr ⟨hlo, hhi⟩
  obtain ⟨hq, hq'⟩ := quotient_bounds h8
  have hup := Bool.toNat_le (roundsUp M (p - 3))
  rw [hlog] at hq hq'
  have hge : 8 ≤ q2 := by rw [hq2, roundedQuotient]; omega
  have hle : q2 ≤ 16 := by rw [hq2, roundedQuotient]; omega
  have hf : 8 ≤ f ∧ f < 16 := by
    simp only [f]
    split_ifs <;> omega
  have hbits : roundedBits M = er * 8 + (f - 8) := by
    rw [roundedBits_of_le h8, hlog, ← hq2]
    simp only [er, f]
    split_ifs <;> omega
  rw [hbits]
  exact packOrNan_byte_of_fields hf.1 hf.2

/-- Settles O34: the integers of the algorithm are the grid sum, its rounded quotient and its packing, with the carry
moved into the exponent field. -/
theorem f143AddResult : Obligations.F143AddResult := by
  intro s a b e m M S sr nan
  have hS : S = gridInt a + gridInt b := by
    rw [gridInt_eq_ite, gridInt_eq_ite b, gridMag_eq_of_fields, gridMag_eq_of_fields b]
  have hsr : sr = (wire (decide (S < 0))).toNat * 128 := (wire_toNat_mul _).symm
  have hnan : nan ↔ a.isNan = true ∨ b.isNan = true := by
    rw [F143.isNan_iff_fields, F143.isNan_iff_fields]
  have hnum : ¬nan → a.isNan = false ∧ b.isNan = false := by simp [hnan]
  clear_value sr nan
  have hsum : ¬nan → ∀ p, 2 ^ p ≤ S.natAbs →
      addF143 s.cfg a b = packOrNan s.cfg (wire (decide (S < 0))) (roundedBits S.natAbs) := fun h p hlo => by
    obtain ⟨ha, hb⟩ := hnum h
    have := Nat.two_pow_pos p
    rw [hS] at hlo ⊢
    exact addF143_of_sum_ne_zero ha hb (by omega)
  refine ⟨addF143 s.cfg a b, rfl, fun h => ?_, fun h h0 => ?_, fun h p hlo hhi hp => ?_, fun h p hlo hhi hp => ?_⟩
  · exact congrArg F143.byte (addF143_of_isNan (hnan.mp h))
  · obtain ⟨ha, hb⟩ := hnum h
    rw [addF143_of_sum_zero ha hb (hS.symm.trans h0), packBits_and_zero_byte]
    simp only [sign_eq_one_iff]
    split_ifs <;> rfl
  · have h8 : 2 ^ (p + 1) ≤ 2 ^ 3 := Nat.pow_le_pow_right two_pos (by omega)
    rw [hsum h p hlo, hsr, packOrNan_roundedBits_of_lt (by omega)]
  · rw [hsum h p hlo, hsr]
    exact packOrNan_roundedBits_of_le hlo hhi hp (roundedQuotient_eq_ite _ _).symm

end Sys2Proof.Machine
end
